-- ==== Sys2Proof/Word.lean ====
section
/-!
DEFINITION. The word types of the TN64: 32-bit ring, field and control words, 24-bit audio samples, 16-bit
sequences, and the 48-sample block (spec/00_scope.md, "Conventions" and "Word layouts").
-/

namespace Sys2Proof

/-- A 32-bit word of the ring, of a field port or of the control port. -/
abbrev Word := BitVec 32

/-- A 24-bit two's complement audio sample. -/
abbrev Sample := BitVec 24

/-- A 16-bit wrapping number: a burst sequence, a block counter value, a start stamp. -/
abbrev Seq := BitVec 16

/-- A 24-bit reference count, as a training stamp holds it (R160). -/
abbrev Stamp := BitVec 24

/-- One block: 48 consecutive samples of one channel, sample 0 first. -/
abbrev Block := Vector Sample 48

/-- 48 zero samples. -/
def Block.silence : Block := Vector.replicate 48 0

end Sys2Proof
end

