-- ==== Sys2Proof/Syntax.lean ====
section
/-!
DEFINITION. The commands of the TN64: one constructor of `Instr` for each row of spec/opcode_table.json, with the
operands the row's rule gives it, and the small types those operands are made of.
-/

namespace Sys2Proof

/-- A class C0 (0, highest priority) to C3 (3, lowest). -/
abbrev Cls := Fin 4

/-- A mix: 0 to 15 are K0 to K15, 16 + k is T k (section 1.2). -/
abbrev Mix := Fin 24

/-- A field port 0 to 7. -/
abbrev PortNo := Fin 8

/-- A six-bit station field: station numbers 0 to 62, and 63, which in a target field means all stations. -/
abbrev Station := Fin 64

/-- A talk number, 0 to 31 (R69). -/
abbrev TalkNo := Fin 32

/-- An own source index: 0 to 15 are L0 to L15, 16 + k is F k (section 1.1). -/
abbrev SourceNo := Fin 24

/-- The target kind of a talk: one mix, or a feed group. -/
inductive TargetKind where
  | mix
  | group
  deriving DecidableEq, Repr

/-- A source address as a message carries it: a six-bit station and a five-bit source index, in range or not (R1). -/
structure SourceAddr where
  station : Station
  index : Fin 32
  deriving DecidableEq, Repr

/--
A command: one of the part's steps. The operands are, for a command of the control port, the argument words that
followed its header (R187); for an event of a timer, the key of what the timer belongs to; for a ring message
handed on by the copy path, the fields of the copy, with `good` the outcome of the check of R94.
-/
inductive Instr where
  /-- The device reset input (R102). -/
  | deviceReset
  /-- CONFIGURE with its argument words (R188, R189). -/
  | configure (args : List Word)
  /-- KEY-DOWN with its argument words (R71). -/
  | keyDown (args : List Word)
  /-- KEY-UP with its argument words (R75). -/
  | keyUp (args : List Word)
  /-- SET-ROUTE with its argument words (R6 to R9). -/
  | setRoute (args : List Word)
  /-- FIELD-RESET with its argument words (R172). -/
  | fieldReset (args : List Word)
  /-- READ-ROUTES with its argument words (R5). -/
  | readRoutes (args : List Word)
  /-- READ-OUT-TALK with its argument words (R82). -/
  | readOutTalk (args : List Word)
  /-- READ-IN-TALKS with its argument words (R66). -/
  | readInTalks (args : List Word)
  /-- READ-FEED with its argument words (R46). -/
  | readFeed (args : List Word)
  /-- READ-FIELD with its argument words (R173). -/
  | readField (args : List Word)
  /-- READ-LISTEN with its argument words (R158). -/
  | readListen (args : List Word)
  /-- READ-SEND with its argument words (R128). -/
  | readSend (args : List Word)
  /-- READ-ROSTER with its argument words (R114). -/
  | readRoster (args : List Word)
  /-- READ-COUNTERS with its argument words (R193). -/
  | readCounters (args : List Word)
  /-- NEXT-EVENT with its argument words (R192). -/
  | nextEvent (args : List Word)
  /-- Release of the select line; `received` are the words of the frame since the assertion (R185). -/
  | frameAbort (received : List Word)
  /-- One sample period's samples of L0 to L15 (R18). -/
  | localSample (samples : Vector Sample 16)
  /-- The end of the mix pass in flight (R31). -/
  | mixPassEnd
  /-- A sample moment of a port's inbound converter (R179, R180). -/
  | inboundSampleMoment (port : PortNo)
  /-- The field unit's request for one outbound word (R183). -/
  | outboundWordRequest (port : PortNo)
  /-- A TRAIN word arrives (R162 to R164). -/
  | trainWord (port : PortNo)
  /-- A CODE word arrives with its payload (R165). -/
  | codeWord (port : PortNo) (payload : Sample)
  /-- A SAMPLE word arrives with its payload (R178). -/
  | sampleWord (port : PortNo) (payload : Sample)
  /-- A TALK_ON word arrives (R72). -/
  | talkOnWord (port : PortNo)
  /-- A TALK_OFF word arrives (R76). -/
  | talkOffWord (port : PortNo)
  /-- An END word arrives (R169). -/
  | endWord (port : PortNo)
  /-- An IDLE word arrives, or a word of marker 7 to 15, read as one (R161). -/
  | idleWord (port : PortNo) (marker : Fin 16)
  /-- A port's gap timer runs out (R163). -/
  | gapTimerExpiry (port : PortNo)
  /-- A port's code timer runs out (R165). -/
  | codeTimerExpiry (port : PortNo)
  /-- A port's link silence timer runs out (R170). -/
  | linkSilenceExpiry (port : PortNo)
  /-- A port's holdoff timer runs out (R167). -/
  | holdoffExpiry (port : PortNo)
  /-- Ring-in loses word alignment (R85). -/
  | alignmentLoss
  /-- Ring-in regains word alignment (R85). -/
  | alignmentRegained
  /-- Alignment has stayed lost for 10 µs (R86). -/
  | ringDown
  /-- Alignment has been held for 1 ms (R86). -/
  | ringUp
  /-- A data word arrives on ring-in between messages: the header of a message (R84, R90). -/
  | messageHeader (word : Word)
  /-- A message in arrival is cut short, by an idle symbol or by a loss of alignment (R95). -/
  | messageCutShort (byIdle : Bool)
  /-- A completed BURST copy reaches the listen table (R94, R148, R149). -/
  | burst (good : Bool) (origin : Station) (index : Fin 32) (cls : Cls) (seq : Seq) (samples : Block)
  /-- A completed PRESENCE copy reaches the roster (R99, R106, R107). -/
  | presence (good : Bool) (origin target : Station) (hop : Fin 64) (stamp : Seq) (listens sends : BitVec 8)
  /-- A completed PRESENCE check copy is compared with the own start stamp (R91). -/
  | presenceCheckCopy (good : Bool) (stamp : Seq)
  /-- A completed JOIN copy reaches the send table (R99, R117). -/
  | join (good : Bool) (origin target : Station) (index : Fin 32) (cls : Cls)
  /-- A completed LEAVE copy reaches the send table (R99, R118). -/
  | leave (good : Bool) (origin target : Station) (index : Fin 32)
  /-- A completed TALK copy reaches the talk arbiter (R99, R50). -/
  | talk (good : Bool) (origin target : Station) (number : TalkNo) (source : SourceAddr) (cls : Cls) (intr : Bool) (kind : TargetKind) (value : Fin 32)
  /-- A completed TALK-END copy reaches the talk arbiter (R99, R59). -/
  | talkEnd (good : Bool) (origin target : Station) (number : TalkNo)
  /-- A completed TALK-STATE copy reaches the talker; `state` and `reason` are the received codes (R99, R77). -/
  | talkState (good : Bool) (origin target : Station) (number : TalkNo) (mix : Fin 32) (state : Fin 8) (reason : Fin 16)
  /-- The lapse timer of an incoming talk record runs out (R60). -/
  | lapseTimerExpiry (talker : Station) (number : TalkNo) (mix : Mix)
  /-- The refresh timer of an outgoing talk record runs out (R74). -/
  | refreshTimerExpiry (number : TalkNo)
  /-- The UNANSWERED timer of an outgoing talk record runs out (R79). -/
  | unansweredTimerExpiry (number : TalkNo)
  /-- The presence timer runs out (R104). -/
  | presenceTimerExpiry
  /-- The absence timer of a roster record runs out (R108). -/
  | absenceTimerExpiry (station : Station)
  /-- The expiry timer of a subscriber runs out (R119). -/
  | subscriberExpiry (source : SourceNo) (station : Station)
  /-- The JOIN refresh timer of a listen entry runs out (R123). -/
  | joinRefreshExpiry (entry : Fin 32)
  /-- A word time at which the ring interface may begin an insertion (R96). -/
  | insertionStart
  /-- The inserted message and its two trailing idle symbols have left (R97, R139). -/
  | insertionEnd
  /-- The last buffered word and its idle symbol leave (R98). -/
  | insertionBufferEmpty
  /-- An idle symbol arrives on ring-in (R84, R92). -/
  | ringInIdleSymbol
  /-- A data word after a header arrives on ring-in (R92, R93). -/
  | messageWordArrival (word : Word)
  deriving DecidableEq, Repr

end Sys2Proof
end

