-- ==== Sys2Proof/Decode.lean ====
section
/-!
DEFINITION. The command a word spells by the bits of the opcode table. No row of spec/opcode_table.json gives bits, so
no word spells a command.
-/

namespace Sys2Proof

/-- The command that the word `w` of `nbits` bits spells: none, since no row of the opcode table gives bits. -/
def decodeTableWord (_nbits _w : Nat) : Option Instr := none

end Sys2Proof
end

