-- ==== Sys2Proof/Config.lean ====
section
/-!
DEFINITION. What the part fixes (capacities and durations, in counts of the 24.576 MHz reference) and the one value
the spec leaves free: on which side of a port's becoming LIVE the mix pass and the capture of the same block
completion take that port (R131, R168).
-/

namespace Sys2Proof.Config

/-- Reference counts in one millisecond: the reference runs at 24.576 MHz. -/
def countsPerMs : Nat := 24576

/-- Reference counts in one 48 kHz sample period (section 2.1). -/
def countsPerSample : Nat := 512

/-- Reference counts from a block completion to sample moment 0 of the period it begins (R179). -/
def firstMoment : Nat := 256

/-- 10 µs as a number of whole reference counts: 245.76 counts, so the 246th count is the first at which it is over. -/
def downCounts : Nat := 246

/-- `n` milliseconds in reference counts. -/
def ms (n : Nat) : Nat := n * countsPerMs

/-- Route table capacity (section 1.3). -/
def maxRoutes : Nat := 192

/-- Route entries of one mix (section 1.3). -/
def maxRoutesPerMix : Nat := 12

/-- Listen table capacity (R144). -/
def maxListens : Nat := 32

/-- Incoming talk table capacity (R48). -/
def maxTalks : Nat := 48

/-- Interrupt slots of one mix (R49). -/
def slots : Nat := 2

/-- Reply entries of one outgoing talk record (R69). -/
def maxReplies : Nat := 8

/-- Event queue capacity (R191). -/
def maxEvents : Nat := 64

/-- Note queue capacity (R130). -/
def maxNotes : Nat := 16

/-- Capacity of each class queue (R130). -/
def maxBursts : Nat := 16

/-- Insertion buffer capacity in words (R98). -/
def maxBuffer : Nat := 64

/-- Elastic buffer capacity in field samples (R174). -/
def maxElastic : Nat := 256

/-- The fill a SETTLING port needs to become LIVE, and the target fill of the drift correction (R168, R177). -/
def liveFill : Nat := 96

/--
FREE VALUE (log entry 8). At the n-th block completion, whether the mix pass and the burst capture take port k after
its change to LIVE (true) or before it (false). R131 and R168 let either happen. It has no body: nothing can be
proved of it.
-/
opaque liveSeen : Nat → PortNo → Bool

end Sys2Proof.Config
end

