-- ==== Sys2Proof/Machine/State.lean ====
section
/-!
DEFINITION. The state of a TN64 as plain data: every table, queue, timer, counter, mode and pin the spec names, the
queue of waiting commands, and the state after device reset. INVENTORY.md lists each field with the rule that names it.
-/

namespace Sys2Proof.Machine

/-! ### Time -/

/-- The reference time and the two counters that run from the 24.576 MHz reference. -/
structure Clock where
  /-- Reference counts since power-up: the reference time of every timer ("Conventions"). -/
  now : Nat
  /-- The 16-bit free-running counter of the start stamp (R103). -/
  startCounter : Seq
  /-- The 24-bit counter of the training stamps (R160). -/
  stampCounter : Stamp
  deriving DecidableEq, Repr

/-! ### Configuration -/

/-- The station mode (section 6.2). -/
inductive Mode where
  | unconfigured
  | active
  | silent
  deriving DecidableEq, Repr

/-- The per-mix fields that CONFIGURE writes (section 1.2). -/
structure MixConfig where
  group : Fin 8
  /-- The base input: a local line, or none. -/
  base : Option (Fin 16)
  baseLevel : Nat
  dimDepth : Nat
  dimRamp : Nat
  /-- The headroom shift h. -/
  headroom : Fin 4
  lo : Sample
  hi : Sample
  /-- The protect threshold p. -/
  protect : Nat
  deriving DecidableEq, Repr

/-- The station-wide fields that CONFIGURE writes, with the station number and the start stamp (R88, R103, R189). -/
structure StationConfig where
  number : Option Station
  startStamp : Option Seq
  jitterTarget : Nat
  fixedClass : Cls
  /-- The class talk levels of C0 to C3. -/
  talkLevels : Vector Nat 4
  mixes : Vector MixConfig 24
  deriving DecidableEq, Repr

/-! ### Routes and mixes -/

/-- A remote source s.i (R1). -/
structure Remote where
  station : Station
  index : SourceNo
  deriving DecidableEq, Repr

/-- What a route entry feeds into its mix (R1). -/
inductive Input where
  | loc (line : Fin 16)
  | field (port : PortNo)
  | remote (source : Remote)
  deriving DecidableEq, Repr

/-- A route entry; its mix is the list it stands in and its effective level is computed (section 1.3). -/
structure Route where
  input : Input
  fixedLevel : Nat
  holders : Nat
  talkLevel : Nat
  cls : Cls
  deriving DecidableEq, Repr

/-- The per-mix state of the dim update and the protect loop (section 3.1). -/
structure MixState where
  dimGain : Nat
  trim : Nat
  cleanRun : Nat
  high : Nat
  low : Nat
  wrong : Nat
  clipped : Bool
  deriving DecidableEq, Repr

/-- One term of a mix in a pass: the block of its input and its weight (R25). -/
structure Term where
  block : Block
  weight : Nat
  deriving DecidableEq, Repr

/-- What a pass took for one mix at its start (R21). -/
structure PassMix where
  terms : List Term
  headroom : Fin 4
  trim : Nat
  lo : Sample
  hi : Sample
  deriving DecidableEq, Repr

/-- A mix pass in flight: the block counter value of its start and what it took (R20, R21). -/
structure Pass where
  number : Seq
  mixes : Vector PassMix 24
  deriving DecidableEq, Repr

/-- The local audio ports and the pass in flight (R18 to R20). -/
structure Audio where
  blockCounter : Seq
  /-- The sample periods received of the current input blocks, oldest first: its length is the next position. -/
  current : List (Vector Sample 16)
  /-- The just-completed input blocks of L0 to L15. -/
  completed : Vector Block 16
  /-- The block last delivered to each output line since device reset, if any. -/
  delivered : Vector (Option Block) 16
  /-- The block each output line plays in the present block period; none plays zero samples. -/
  playing : Vector (Option Block) 16
  pass : Option Pass
  /-- Reference time of the last sample period (the model's own, log entry 3). -/
  sampleAt : Nat
  /-- Reference time of the last block completion, from which the sample moments count (R179). -/
  completedAt : Nat
  deriving DecidableEq, Repr

/-! ### Talks -/

/-- An incoming talk record; its mix and state are the list it stands in (R48, R49). -/
structure InTalk where
  talker : Station
  number : TalkNo
  source : SourceAddr
  cls : Cls
  intr : Bool
  preempted : Bool
  /-- Reference time of the TALK that created or last refreshed the record. -/
  lastRefresh : Nat
  orderStamp : Seq
  deriving DecidableEq, Repr

/-- The two ordered collections of one mix: the GRANTED records oldest grant first, the WAITING ones in wait order (R49). -/
structure MixTalks where
  granted : List InTalk
  waiting : List InTalk
  deriving DecidableEq, Repr

/-- The state a TALK-STATE note carries ("Word layouts"). -/
inductive TalkAnswer where
  | granted
  | waiting
  | preempted
  | refused
  | lapsed
  deriving DecidableEq, Repr

/-- The reason a TALK-STATE note carries ("Word layouts"). -/
inductive Reason where
  | none
  | noRoom
  | noRoute
  | loop
  | destDown
  | badTarget
  | talkerGone
  | timeout
  deriving DecidableEq, Repr

/-- The tally of an outgoing talk (R69). -/
inductive Summary where
  | pending
  | unanswered
  | granted
  | waiting
  | refused
  deriving DecidableEq, Repr

/-- Who created an outgoing talk record (R69). -/
inductive Origin where
  | panel
  | field (port : PortNo)
  deriving DecidableEq, Repr

/-- One reply entry (R69). -/
structure Reply where
  station : Station
  mix : Fin 32
  answer : TalkAnswer
  reason : Reason
  deriving DecidableEq, Repr

/-- The target of a talk: a station field, a kind and a value. -/
structure TalkTarget where
  station : Station
  kind : TargetKind
  value : Fin 32
  deriving DecidableEq, Repr

/-- An outgoing talk record; its talk number is its place (R69). -/
structure OutTalk where
  source : SourceNo
  target : TalkTarget
  cls : Cls
  intr : Bool
  origin : Origin
  replies : List Reply
  overflow : Nat
  summary : Summary
  created : Nat
  heard : Bool
  /-- Reference time at which the refresh timer next runs out (R74). -/
  refreshDue : Nat
  /-- Whether the UNANSWERED timer has run out (R79). -/
  answerTimerRan : Bool
  deriving DecidableEq, Repr

/-! ### Roster, subscriptions, transmit scheduler, listen table -/

/-- A roster record (section 7.2). -/
structure RosterRecord where
  present : Bool
  stamp : Option Seq
  lastHeard : Option Nat
  distance : Fin 64
  listens : BitVec 8
  sends : BitVec 8
  deriving DecidableEq, Repr

/-- One subscriber of a send entry (R115). -/
structure Subscriber where
  station : Station
  cls : Cls
  lastJoin : Nat
  deriving DecidableEq, Repr

/-- The kind and body of a note, filled in when it is handed over (R130). -/
inductive NoteBody where
  | presence (stamp : Seq) (listens sends : BitVec 8)
  | join (index : SourceNo) (cls : Cls)
  | leave (index : SourceNo)
  | talk (number : TalkNo) (source : SourceAddr) (cls : Cls) (intr : Bool) (kind : TargetKind) (value : Fin 32)
  | talkEnd (number : TalkNo)
  | talkState (number : TalkNo) (mix : Fin 32) (answer : TalkAnswer) (reason : Reason)
  deriving DecidableEq, Repr

/-- A queued note (R130). -/
structure Note where
  target : Station
  body : NoteBody
  deriving DecidableEq, Repr

/-- A captured burst with its age count (R130). -/
structure Burst where
  source : SourceNo
  cls : Cls
  seq : Seq
  samples : Block
  age : Nat
  deriving DecidableEq, Repr

/-- A message the scheduler gives for insertion (R136). -/
inductive Message where
  | note (n : Note)
  | burst (b : Burst)
  deriving DecidableEq, Repr

/-- The last-inserted record of one source (R130). -/
structure LastInserted where
  seq : Seq
  age : Nat
  deriving DecidableEq, Repr

/-- The transmit scheduler (R130). -/
structure Scheduler where
  notes : List Note
  /-- Q0 to Q3, oldest first. -/
  queues : Vector (List Burst) 4
  last : Vector (Option LastInserted) 24
  deriving DecidableEq, Repr

/-- The state of play of a listen entry (R144). -/
inductive PlayState where
  | empty
  | priming
  | playing
  deriving DecidableEq, Repr

/-- A block stored in a jitter buffer (R144). -/
structure Stored where
  seq : Seq
  samples : Block
  deriving DecidableEq, Repr

/-- A listen entry; its index is its place (R144). -/
structure ListenEntry where
  source : Remote
  refCount : Nat
  cls : Cls
  state : PlayState
  /-- The SOURCE_ABSENT mark. -/
  absent : Bool
  play : Option Seq
  buffer : List Stored
  last : Block
  miss : Nat
  lateRx : Nat
  dup : Nat
  resync : Nat
  conceal : Nat
  /-- Reference time of the last JOIN handed; its refresh timer runs from there while the mark is clear (R123). -/
  lastJoin : Option Nat
  deriving DecidableEq, Repr

/-! ### Field ports -/

/-- The state of a field port (section 11.1, in the order of its table). -/
inductive PortState where
  | disabled
  | idle
  | training
  | checking
  | holdoff
  | settling
  | live
  | retraining
  deriving DecidableEq, Repr

/-- The ID result of a field port (R160). -/
inductive IdResult where
  | notVerified
  | mismatch
  | verified
  deriving DecidableEq, Repr

/-- The fault of a field port's change of state (R173, in the order of its table). -/
inductive PortFault where
  | none
  | trainTimeout
  | trainBroken
  | trainRange
  | trainSpread
  | codeTimeout
  | codeMismatch
  | linkLost
  | ended
  | portReset
  deriving DecidableEq, Repr

/-- A field port: the record of R160 and the converter state of R174. -/
structure Port where
  state : PortState
  idResult : IdResult
  stamps : List Stamp
  codes : List (BitVec 16)
  interval : Option Nat
  stagedIn : Option Nat
  stagedOut : Option Nat
  activeIn : Option Nat
  activeOut : Option Nat
  trained : Option Nat
  failures : Nat
  lastFault : PortFault
  /-- Blocks since SETTLING entry. -/
  settled : Nat
  elastic : List Sample
  outbound : List Sample
  enabled : Bool
  access : BitVec 48
  target : Option TalkTarget
  /-- Reference times at which the running timers run out (section 11.6). -/
  gapDue : Option Nat
  codeDue : Option Nat
  silenceDue : Option Nat
  holdoffDue : Option Nat
  /-- Inbound phase f. -/
  phaseIn : Nat
  lastIn : Sample
  /-- The samples produced of the inbound block in progress, sample 0 first. -/
  progress : List Sample
  completed : Block
  /-- Outbound phase g. -/
  phaseOut : Nat
  lastOut : Sample
  /-- The word last sent on the port's outbound link, if any. -/
  sent : Option Word
  deriving DecidableEq, Repr

/-! ### Ring interface -/

/-- The ring status (R86). -/
inductive RingStatus where
  | up
  | down
  deriving DecidableEq, Repr

/-- What a ring link carries in one word time: an idle symbol, a data word, or no symbol while alignment is lost. -/
inductive Symbol where
  | idle
  | data (w : Word)
  | lost
  deriving DecidableEq, Repr

/-- Where the words of the message in arrival go (R90, R92, R98). -/
inductive Path where
  /-- Discarded at the strip test. -/
  | strip
  /-- Emitted on ring-out as they arrive. -/
  | cutThrough
  /-- Appended to the insertion buffer. -/
  | buffered
  /-- Not stored: the message met a full insertion buffer. -/
  | cutOff
  deriving DecidableEq, Repr

/-- What the copy path does with the message in arrival (R91, R93). -/
inductive Collect where
  | no
  /-- A BURST whose word 1 has not arrived. -/
  | undecided
  | copy
  /-- The check copy of a stripped PRESENCE of the own number. -/
  | checkCopy
  deriving DecidableEq, Repr

/-- A message in arrival on ring-in. -/
structure Arrival where
  /-- Words still to come. -/
  left : Nat
  path : Path
  collect : Collect
  /-- The words collected, header first with its hop count as received. -/
  words : List Word
  deriving DecidableEq, Repr

/-- How the ring interface reads the next symbol (R84). -/
inductive Framing where
  /-- Waiting for an idle symbol before framing starts. -/
  | hunting
  | between
  | message (m : Arrival)
  /-- Discarding a bad header up to the next idle symbol. -/
  | badHeader
  deriving DecidableEq, Repr

/-- A word held in the insertion buffer, and whether it ends its message. -/
structure Held where
  word : Word
  ends : Bool
  deriving DecidableEq, Repr

/-- An insertion in flight: its message and the symbols still to leave (R97). -/
structure Insertion where
  message : Message
  left : List Symbol
  deriving DecidableEq, Repr

/-- The ring interface (chapter 6). -/
structure Ring where
  status : RingStatus
  /-- Whether ring-in holds word alignment (an input of the part). -/
  aligned : Bool
  /-- Reference time of the last change of alignment, or of device reset. -/
  alignedAt : Nat
  framing : Framing
  buffer : List Held
  /-- The last word of a buffered message has left and its idle symbol is owed (R98). -/
  gapOwed : Bool
  insertion : Option Insertion
  /-- The symbol ring-out carries. -/
  out : Symbol
  /-- The symbols of an insertion or of the buffer that left, oldest first, when ring-out last moved with no symbol of ring-in to mark its word times (the model's own, log entry 10). -/
  swept : List Symbol
  /-- Good copies completed from ring-in and not yet taken, oldest first, as the commands that hand them on (R100, R102). -/
  handOff : List Instr
  deriving DecidableEq, Repr

/-! ### Control port -/

/-- The sixteen counters of R193. -/
structure Counters where
  check : Nat
  partialCopies : Nat
  ringIgnored : Nat
  dropOld : Nat
  lateTx : Nat
  stale : Nat
  noteDrop : Nat
  lateRx : Nat
  dup : Nat
  resync : Nat
  conceal : Nat
  overrun : Nat
  underrun : Nat
  arbiterIgnored : Nat
  sendIgnored : Nat
  talkerIgnored : Nat
  deriving DecidableEq, Repr

/-- The cause of an INCOMING event (R65, in the order of its table). -/
inductive Cause where
  | grant
  | promote
  | preempted
  | ended
  | timeout
  | talkerGone
  | destDown
  deriving DecidableEq, Repr

/-- The change of a STATION event (R112). -/
inductive StationChange where
  | present
  | absent
  | restarted
  deriving DecidableEq, Repr

/-- The change of a RING event (R86). -/
inductive RingChange where
  | up
  | down
  | duplicate
  deriving DecidableEq, Repr

/-- The direction of a PROTECT event (R45). -/
inductive Direction where
  | up
  | down
  deriving DecidableEq, Repr

/-- An event record, its fields in the order of its rule's table (section 13.5). -/
inductive Event where
  | tally (number : TalkNo) (origin : Origin) (summary : Summary) (released : Bool)
  | incoming (mix : Mix) (talker : Station) (number : TalkNo) (source : SourceAddr) (cls : Cls) (intr : Bool) (granted : Bool) (cause : Cause)
  | field (port : PortNo) (before after : PortState) (fault : PortFault) (idResult : IdResult) (failures : Nat) (interval : Option Nat) (block : Seq)
  | station (station : Station) (change : StationChange) (stamp : Option Seq) (block : Seq)
  | protect (mix : Mix) (direction : Direction) (trim : Nat) (clips : Nat) (pass : Seq)
  | ring (change : RingChange) (block : Seq) (foreign : Option Seq)
  deriving DecidableEq, Repr

/-- The event queue with its lost count (R191). -/
structure EventQueue where
  queue : List Event
  lost : Nat
  deriving DecidableEq, Repr

/-- The result of a response ("Control frames"). -/
inductive Result where
  | done
  | refused
  | notConfigured
  | badArg
  deriving DecidableEq, Repr

/-- The refusal reason of a response ("Control frames"). -/
inductive RefusalReason where
  | none
  | tableFull
  | mixFull
  | listenFull
  | loop
  | talkFull
  | already
  deriving DecidableEq, Repr

/-- The response the control port holds (R185). -/
structure Response where
  code : BitVec 8
  result : Result
  reason : RefusalReason
  words : List Word
  deriving DecidableEq, Repr

/-! ### The machine -/

/-- The state of a TN64. -/
structure State where
  /-- The commands waiting, first in, first out (the model's own, log entry 1). -/
  pending : List Instr
  clock : Clock
  mode : Mode
  cfg : StationConfig
  mixes : Vector MixState 24
  /-- The route entries of each mix, in the order of their creation (section 1.3). -/
  routes : Vector (List Route) 24
  /-- The incoming talk table, by mix (R48, R49). -/
  talks : Vector MixTalks 24
  /-- The outgoing talk table, by talk number (R69). -/
  outTalks : Vector (Option OutTalk) 32
  /-- The roster records of stations 0 to 62 (section 7.2). -/
  roster : Vector RosterRecord 63
  /-- Reference time at which the presence timer next runs out; none while it is stopped (R103). -/
  presenceDue : Option Nat
  /-- The subscriber lists of the 24 send entries (R115). -/
  sends : Vector (List Subscriber) 24
  sched : Scheduler
  /-- The listen table, by entry index (R144). -/
  listens : Vector (Option ListenEntry) 32
  ports : Vector Port 8
  audio : Audio
  ring : Ring
  counters : Counters
  events : EventQueue
  /-- The held response; none before the first command after device reset (R185). -/
  response : Option Response
  /-- Whether the select line is asserted, within the frame of a command that has been taken (R185; log entry 18). -/
  selected : Bool
  /-- The response held at the last assertion of the select line, which that frame sends (R185; log entry 18). -/
  frameReply : Option Response
  /-- Block completions taken: picks the free value of each (the model's own, log entry 8). -/
  choices : Nat
  deriving DecidableEq, Repr

/--
What stops the machine with a fault. The spec gives every command an effect, so there is no constructor: nothing
raises a fault. Safe: no behaviour is cut off.
-/
inductive Fault where
  deriving DecidableEq, Repr

/-- What the model refuses. -/
inductive Refusal where
  /-- A row of the opcode table without a meaning in the model. Raised by `exec` alone, and by no arm of it now. Safe: the model stops. -/
  | notModelled (mnemonic : String)
  deriving DecidableEq, Repr

/-! ### Device reset -/

/-- A mix's configuration after device reset (section 1.2). -/
def MixConfig.reset : MixConfig where
  group := 0
  base := none
  baseLevel := 0
  dimDepth := 32768
  dimRamp := 0
  headroom := 0
  lo := BitVec.ofInt 24 (-8388608)
  hi := BitVec.ofInt 24 8388607
  protect := 0

/-- The station's configuration after device reset (sections 1.2 and 10.2, R102). -/
def StationConfig.reset : StationConfig where
  number := none
  startStamp := none
  jitterTarget := 1
  fixedClass := 3
  talkLevels := Vector.replicate 4 0
  mixes := Vector.replicate 24 MixConfig.reset

/-- A mix's dim and protect state after device reset (R47). -/
def MixState.reset : MixState where
  dimGain := 32768
  trim := 0
  cleanRun := 0
  high := 0
  low := 0
  wrong := 0
  clipped := false

/-- The local audio ports after a device reset at reference time `t` (R18, R19, R33). -/
def Audio.reset (t : Nat) : Audio where
  blockCounter := 0
  current := []
  completed := Vector.replicate 16 Block.silence
  delivered := Vector.replicate 16 none
  playing := Vector.replicate 16 none
  pass := none
  sampleAt := t
  completedAt := t

/-- A roster record after device reset (R105). -/
def RosterRecord.reset : RosterRecord where
  present := false
  stamp := none
  lastHeard := none
  distance := 0
  listens := 0
  sends := 0

/-- The transmit scheduler after device reset (R130). -/
def Scheduler.reset : Scheduler where
  notes := []
  queues := Vector.replicate 4 []
  last := Vector.replicate 24 none

/-- A field port after device reset (R160, R174). -/
def Port.reset : Port where
  state := .disabled
  idResult := .notVerified
  stamps := []
  codes := []
  interval := none
  stagedIn := none
  stagedOut := none
  activeIn := none
  activeOut := none
  trained := none
  failures := 0
  lastFault := .none
  settled := 0
  elastic := []
  outbound := []
  enabled := false
  access := 0
  target := none
  gapDue := none
  codeDue := none
  silenceDue := none
  holdoffDue := none
  phaseIn := 0
  lastIn := 0
  progress := []
  completed := Block.silence
  phaseOut := 0
  lastOut := 0
  sent := none

/-- The ring interface after a device reset at reference time `t` with ring-in aligned or not (R102). -/
def Ring.reset (aligned : Bool) (t : Nat) : Ring where
  status := .down
  aligned := aligned
  alignedAt := t
  framing := .hunting
  buffer := []
  gapOwed := false
  insertion := none
  out := if aligned then .idle else .lost
  swept := []
  handOff := []

/-- The counters after device reset, and after READ-COUNTERS (R193). -/
def Counters.zero : Counters where
  check := 0
  partialCopies := 0
  ringIgnored := 0
  dropOld := 0
  lateTx := 0
  stale := 0
  noteDrop := 0
  lateRx := 0
  dup := 0
  resync := 0
  conceal := 0
  overrun := 0
  underrun := 0
  arbiterIgnored := 0
  sendIgnored := 0
  talkerIgnored := 0

/-- A device reset (R194 discards a frame in reception) with the clock, the alignment of ring-in, the waiting commands and the free value's counter as given: what it does not reset. -/
def State.resetFrom (pending : List Instr) (clock : Clock) (aligned : Bool) (choices : Nat) : State where
  pending := pending
  clock := clock
  mode := .unconfigured
  cfg := StationConfig.reset
  mixes := Vector.replicate 24 MixState.reset
  routes := Vector.replicate 24 []
  talks := Vector.replicate 24 ⟨[], []⟩
  outTalks := Vector.replicate 32 none
  roster := Vector.replicate 63 RosterRecord.reset
  presenceDue := none
  sends := Vector.replicate 24 []
  sched := Scheduler.reset
  listens := Vector.replicate 32 none
  ports := Vector.replicate 8 Port.reset
  audio := Audio.reset clock.now
  ring := Ring.reset aligned clock.now
  counters := Counters.zero
  events := ⟨[], 0⟩
  response := none
  selected := false
  frameReply := none
  choices := choices

/--
The machine right after a device reset (R102, R194 and the reset values of every chapter). DESIGN CHOICE (log entries
1, 5, 6 and 8): no command waits, the reference counters stand at 0, ring-in holds alignment, the free value's
counter is 0. Unsafe: the spec gives no reset value for these four.
-/
def State.reset : State := State.resetFrom [] ⟨0, 0, 0⟩ true 0

end Sys2Proof.Machine
end

