-- ==== Sys2Proof/Machine/Flags.lean ====
section
/-!
DEFINITION. The arithmetic of the TN64 and the flags it raises: saturating counters, serial differences, the three
roundings of a mix sample with its clip flag (R26 to R29), the interpolation of the converters (R180), and the dim
update (R37, R38).
-/

namespace Sys2Proof.Machine

/-- One more on a 16-bit saturating counter ("Conventions"). -/
def satInc (n : Nat) : Nat := if n < 65535 then n + 1 else n

/-- The serial difference of `a` from `b`: (a - b) modulo 65536, read as a signed number ("Conventions"). -/
def serialDiff (a b : Seq) : Int := (a - b).toInt

/-- `x / 2^n` rounded to the nearest integer, an exact half going toward plus infinity ("Conventions"). -/
def roundHalfUp (x : Int) (n : Nat) : Int := (x + 2 ^ (n - 1)) / 2 ^ n

/-- The accumulated value A: the exact sum of each term's sample times its weight (R26). -/
def accumulate (terms : List Term) (n : Fin 48) : Int :=
  (terms.map fun t => t.block[n].toInt * (t.weight : Int)).sum

/-- The headroom shift: V from A and h (R27). -/
def headroomShift (a : Int) (h : Fin 4) : Int := roundHalfUp a (15 - h.val)

/-- The trim multiplication: V′ from V and the trim step (R28). -/
def trimmed (v : Int) (k : Nat) : Int := roundHalfUp (v * (32768 - 4096 * (k : Int))) 15

/-- The flag of a sample (R29). -/
inductive ClipFlag where
  | inside
  | high
  | low
  | wrong
  deriving DecidableEq, Repr

/-- The flag of V′ against the limits, the two tests made independently (R29). -/
def clipFlag (v : Int) (lo hi : Sample) : ClipFlag :=
  if v > hi.toInt then (if v < lo.toInt then .wrong else .high)
  else (if v < lo.toInt then .low else .inside)

/-- The sample delivered for V′ (R29). -/
def clipped (v : Int) (lo hi : Sample) : Sample :=
  match clipFlag v lo hi with
  | .inside => BitVec.ofInt 24 v
  | .high => hi
  | .low => lo
  | .wrong => hi

/-- V′ of sample `n` of a mix in a pass (R26 to R28). -/
def mixValue (p : PassMix) (n : Fin 48) : Int :=
  trimmed (headroomShift (accumulate p.terms n) p.headroom) p.trim

/-- The output block of a mix in a pass (R29, R31). -/
def mixBlock (p : PassMix) : Block := Vector.ofFn fun n => clipped (mixValue p n) p.lo p.hi

/-- How many of the 48 samples of a mix in a pass carry the flag `f` (R30). -/
def clipCount (p : PassMix) (f : ClipFlag) : Nat :=
  (List.finRange 48).countP fun n => clipFlag (mixValue p n) p.lo p.hi = f

/-- The interpolated sample between `x0` and `x1` at phase `f`, a 65536th (R180). -/
def interpolate (x0 x1 : Sample) (f : Nat) : Sample :=
  BitVec.ofInt 24 (x0.toInt + roundHalfUp ((x1.toInt - x0.toInt) * (f : Int)) 16)

/-- The dim gain after one update toward `target` by at most `ramp` (R37). -/
def dimStep (d target ramp : Nat) : Nat :=
  if ramp = 0 then target
  else if d < target then (if target - d ≤ ramp then target else d + ramp)
  else (if d - target ≤ ramp then target else d - ramp)

/-- The effective base level: base level times dim gain over 32768, truncated (R38). -/
def effectiveBase (level d : Nat) : Nat := level * d / 32768

/-- A sample shifted right arithmetically by one, as the first concealment plays it (R154). -/
def halved (x : Sample) : Sample := x.sshiftRight 1

end Sys2Proof.Machine
end

