-- ==== Sys2Proof/Machine/Operands.lean ====
section
/-!
DEFINITION. Every operand form: the argument and return words of the control port (R186 to R188), the words of ring
messages with their check word ("Word layouts", R94, R97), and the field words.
-/

namespace Sys2Proof.Machine

/-! ### Return words (R187) -/

/-- A number in the low bits of a word. -/
def word (n : Nat) : Word := BitVec.ofNat 32 n

/-- The return word of a value that is none, and the mark "free". -/
def noneWord : Word := 0xFFFFFFFF

/-- A return word that may be none. -/
def optWord (o : Option Nat) : Word := (o.map word).getD noneWord

/-- A mark or flag: 1 when set. -/
def flagWord (b : Bool) : Word := if b then 1 else 0

/-- The state GRANTED or not of an INCOMING event by its place in R65's table: ON 0, OFF 1 (R187). -/
def onOffWord (on : Bool) : Word := if on then 0 else 1

/-- A list: the number of its items, then the items. -/
def listWords (items : List (List Word)) : List Word := word items.length :: items.flatten

/-- The code of a target kind ("Word layouts"). -/
def targetKindCode : TargetKind → Nat
  | .mix => 0
  | .group => 1

/-- The code of a TALK-STATE state ("Word layouts"). -/
def TalkAnswer.code : TalkAnswer → Nat
  | .granted => 0
  | .waiting => 1
  | .preempted => 2
  | .refused => 3
  | .lapsed => 4

/-- The state a TALK-STATE code names; none for 5 to 7 (R77). -/
def TalkAnswer.ofCode : Fin 8 → Option TalkAnswer
  | 0 => some .granted
  | 1 => some .waiting
  | 2 => some .preempted
  | 3 => some .refused
  | 4 => some .lapsed
  | _ => none

/-- The code of a TALK-STATE reason ("Word layouts"). -/
def Reason.code : Reason → Nat
  | .none => 0
  | .noRoom => 1
  | .noRoute => 2
  | .loop => 3
  | .destDown => 4
  | .badTarget => 5
  | .talkerGone => 6
  | .timeout => 7

/-- The reason a TALK-STATE code names; none for 8 to 15 (R77). -/
def Reason.ofCode : Fin 16 → Option Reason
  | 0 => some .none
  | 1 => some .noRoom
  | 2 => some .noRoute
  | 3 => some .loop
  | 4 => some .destDown
  | 5 => some .badTarget
  | 6 => some .talkerGone
  | 7 => some .timeout
  | _ => none

/-- DEDUCED (log entry 16): a summary's code is its place in R69's list. -/
def Summary.code : Summary → Nat
  | .pending => 0
  | .unanswered => 1
  | .granted => 2
  | .waiting => 3
  | .refused => 4

/-- FIELD k is coded k and PANEL 8 (R187). -/
def Origin.code : Origin → Nat
  | .field k => k.val
  | .panel => 8

/-- The place of a port state in the table of section 11.1. -/
def PortState.code : PortState → Nat
  | .disabled => 0
  | .idle => 1
  | .training => 2
  | .checking => 3
  | .holdoff => 4
  | .settling => 5
  | .live => 6
  | .retraining => 7

/-- The place of an ID result in R160's list. -/
def IdResult.code : IdResult → Nat
  | .notVerified => 0
  | .mismatch => 1
  | .verified => 2

/-- The place of a fault in R173's list. -/
def PortFault.code : PortFault → Nat
  | .none => 0
  | .trainTimeout => 1
  | .trainBroken => 2
  | .trainRange => 3
  | .trainSpread => 4
  | .codeTimeout => 5
  | .codeMismatch => 6
  | .linkLost => 7
  | .ended => 8
  | .portReset => 9

/-- The place of a state of play in R144's list. -/
def PlayState.code : PlayState → Nat
  | .empty => 0
  | .priming => 1
  | .playing => 2

/-- The place of a station mode in R101's list. -/
def Mode.code : Mode → Nat
  | .unconfigured => 0
  | .active => 1
  | .silent => 2

/-- The place of a ring status in R86's list. -/
def RingStatus.code : RingStatus → Nat
  | .up => 0
  | .down => 1

/-- DEDUCED (log entry 16): a cause's code is its place in R65's list. -/
def Cause.code : Cause → Nat
  | .grant => 0
  | .promote => 1
  | .preempted => 2
  | .ended => 3
  | .timeout => 4
  | .talkerGone => 5
  | .destDown => 6

/-- The place of a change in R112's list. -/
def StationChange.code : StationChange → Nat
  | .present => 0
  | .absent => 1
  | .restarted => 2

/-- The place of a change in R86's list. -/
def RingChange.code : RingChange → Nat
  | .up => 0
  | .down => 1
  | .duplicate => 2

/-- The place of a direction in R45's list. -/
def Direction.code : Direction → Nat
  | .up => 0
  | .down => 1

/-- A source address: its station, then its index (R187). -/
def sourceWords (a : SourceAddr) : List Word := [word a.station.val, word a.index.val]

/-- A target: its station, its kind, then its value (R187). -/
def TalkTarget.words (t : TalkTarget) : List Word :=
  [word t.station.val, word (targetKindCode t.kind), word t.value.val]

/-- The input of a route entry: its kind, its index, then its station, 0 unless the kind is REMOTE (R187). -/
def Input.words : Input → List Word
  | .loc n => [0, word n.val, 0]
  | .field k => [1, word k.val, 0]
  | .remote r => [2, word r.index.val, word r.station.val]

/-- An own source as an input: its kind, then its index (R187). -/
def ownInputWords (n : SourceNo) : List Word :=
  if n.val < 16 then [0, word n.val] else [1, word (n.val - 16)]

/-- The effective level of a route entry: the larger of its fixed and talk levels (R4). -/
def Route.effective (r : Route) : Nat := max r.fixedLevel r.talkLevel

/-- A route entry as READ-ROUTES returns it: the fields of section 1.3 in order (R5). -/
def Route.words (m : Mix) (r : Route) : List Word :=
  word m.val :: r.input.words ++
    [word r.fixedLevel, word r.holders, word r.talkLevel, word r.cls.val, word r.effective]

/-- The words of an event: its kind, then its fields in the order of its rule's table (R187). -/
def Event.words : Event → List Word
  | .tally n o su rel => [0, word n.val, word o.code, word su.code, flagWord rel]
  | .incoming m t n src c i g cause =>
    [1, word m.val, word t.val, word n.val] ++ sourceWords src ++ [word c.val, flagWord i, onOffWord g, word cause.code]
  | .field p b a f r n iv blk =>
    [2, word p.val, word b.code, word a.code, word f.code, word r.code, word n, optWord iv, word blk.toNat]
  | .station st ch stamp blk =>
    [3, word st.val, word ch.code, optWord (stamp.map BitVec.toNat), word blk.toNat]
  | .protect m d k c p => [4, word m.val, word d.code, word k, word c, word p.toNat]
  | .ring ch blk f => [5, word ch.code, word blk.toNat, optWord (f.map BitVec.toNat)]

/-- The code of a response's result ("Control frames"). -/
def Result.code : Result → Nat
  | .done => 0
  | .refused => 1
  | .notConfigured => 2
  | .badArg => 3

/-- The code of a refusal reason ("Control frames"). -/
def RefusalReason.code : RefusalReason → Nat
  | .none => 0
  | .tableFull => 1
  | .mixFull => 2
  | .listenFull => 3
  | .loop => 4
  | .talkFull => 5
  | .already => 6

/-- The response frame: its header word, then its return words ("Control frames"). -/
def Response.frame (r : Response) : List Word :=
  word (r.code.toNat * 2 ^ 24 + r.result.code * 2 ^ 20 + r.reason.code * 2 ^ 16 + r.words.length * 2 ^ 4) :: r.words

/-! ### Argument words (R186, R187) -/

/-- The value of argument word `i`. -/
def arg (args : List Word) (i : Nat) : Nat := (args.getD i 0).toNat

/-- Argument word `i` as a number below `n`; none when its field does not take the value. -/
def argFin (n : Nat) (args : List Word) (i : Nat) : Option (Fin n) :=
  if h : arg args i < n then some ⟨arg args i, h⟩ else none

/-- Argument word `i` as a level 0 to 65535. -/
def argLevel (args : List Word) (i : Nat) : Option Nat :=
  if arg args i ≤ 65535 then some (arg args i) else none

/-- Argument word `i` as a flag, 1 or 0. -/
def argFlag (args : List Word) (i : Nat) : Option Bool :=
  (argFin 2 args i).map fun b => b.val == 1

/-- Argument word `i` as a 24-bit signed value, sign-extended to its word. -/
def argSample (args : List Word) (i : Nat) : Option Sample :=
  let w := args.getD i 0
  if (w.setWidth 24).signExtend 32 = w then some (w.setWidth 24) else none

/-- Argument words `i` to `i + 2` as a talk target: station 0 to 63, kind MIX with a value to 23 or GROUP with 1 to 7 (R71, R188). -/
def argTarget (args : List Word) (i : Nat) : Option TalkTarget := do
  let st ← argFin 64 args i
  let v ← argFin 32 args (i + 2)
  match arg args (i + 1) with
  | 0 => if v.val ≤ 23 then some ⟨st, .mix, v⟩ else none
  | 1 => if 1 ≤ v.val ∧ v.val ≤ 7 then some ⟨st, .group, v⟩ else none
  | _ => none

/-- Argument words `i` and `i + 1` as an own source: LOCAL 0 to 15 or FIELD 0 to 7 (R71). -/
def argOwnSource (args : List Word) (i : Nat) : Option SourceNo :=
  match arg args i with
  | 0 => (argFin 16 args (i + 1)).map fun n => ⟨n.val, by omega⟩
  | 1 => (argFin 8 args (i + 1)).map fun k => ⟨16 + k.val, by omega⟩
  | _ => none

/-- Argument words `i` and `i + 1` as a base input: NONE, whose index is not read, or LOCAL 0 to 15 (R188 check 4). -/
def argBase (args : List Word) (i : Nat) : Option (Option (Fin 16)) :=
  match arg args i with
  | 0 => (argFin 16 args (i + 1)).map some
  | 3 => some none
  | _ => none

/-- The ten argument words of a mix in CONFIGURE, the clamped fields at their clamped values (R187, R188). -/
def argMix (args : List Word) (i : Nat) : Option MixConfig := do
  let group ← argFin 8 args i
  let base ← argBase args (i + 1)
  let level ← argLevel args (i + 3)
  let h ← argFin 4 args (i + 6)
  let lo ← argSample args (i + 7)
  let hi ← argSample args (i + 8)
  pure
    { group := group
      base := base
      baseLevel := level
      dimDepth := min (arg args (i + 4)) 32768
      dimRamp := min (arg args (i + 5)) 32768
      headroom := h
      lo := lo
      hi := hi
      protect := min (arg args (i + 9)) 48 }

/-- What CONFIGURE gives a field port. -/
structure PortConfig where
  enabled : Bool
  access : BitVec 48
  target : TalkTarget
  deriving DecidableEq, Repr

/-- The six argument words of a field port in CONFIGURE (R187, R188). -/
def argPort (args : List Word) (i : Nat) : Option PortConfig := do
  let enabled ← argFlag args i
  let high ← argLevel args (i + 1)
  let target ← argTarget args (i + 3)
  pure ⟨enabled, BitVec.ofNat 16 high ++ args.getD (i + 2) 0, target⟩

/-- What a CONFIGURE that passes its checks gives the station. -/
structure Configuration where
  number : Station
  jitterTarget : Nat
  fixedClass : Cls
  talkLevels : Vector Nat 4
  mixes : Vector MixConfig 24
  ports : Vector PortConfig 8
  deriving DecidableEq, Repr

/-- The fields of CONFIGURE, every one checked before any is taken; none when a check of R188 answers BAD_ARG. -/
def argConfiguration (args : List Word) : Option Configuration := do
  let number ← argFin 64 args 0
  let cls ← argFin 4 args 2
  if number.val = 63 ∨ ¬ (List.range 4).all (fun c => (argLevel args (3 + c)).isSome) then none
  if ¬ (List.range 24).all (fun m => (argMix args (7 + 10 * m)).isSome) then none
  if ¬ (List.range 8).all (fun k => (argPort args (247 + 6 * k)).isSome) then none
  pure
    { number := number
      jitterTarget := max 1 (min (arg args 1) 6)
      fixedClass := cls
      talkLevels := Vector.ofFn fun c => arg args (3 + c.val)
      mixes := Vector.ofFn fun m => (argMix args (7 + 10 * m.val)).getD MixConfig.reset
      ports := Vector.ofFn fun k => (argPort args (247 + 6 * k.val)).getD ⟨false, 0, ⟨0, .mix, 0⟩⟩ }

/-- The arguments of SET-ROUTE that passed checks 1 to 3 of R6. -/
structure RouteArgs where
  mix : Mix
  input : Input
  level : Nat
  deriving DecidableEq, Repr

/-- The argument words of SET-ROUTE; none when checks 1 to 3 of R6 answer BAD_ARG. -/
def argRoute (own : Option Station) (args : List Word) : Option RouteArgs := do
  let m ← argFin 24 args 0
  let level ← argLevel args 4
  match arg args 1 with
  | 0 => (argFin 16 args 2).map fun n => ⟨m, .loc n, level⟩
  | 1 => (argFin 8 args 2).map fun k => ⟨m, .field k, level⟩
  | 2 => do
    let i ← argFin 24 args 2
    let st ← argFin 64 args 3
    if st.val = 63 ∨ some st = own then none
    pure ⟨m, .remote ⟨st, i⟩, level⟩
  | _ => none

/-- The arguments of KEY-DOWN that passed checks 2 and 3 of R71. -/
structure KeyArgs where
  source : SourceNo
  target : TalkTarget
  cls : Cls
  intr : Bool
  deriving DecidableEq, Repr

/-- The argument words of KEY-DOWN; none when checks 2 or 3 of R71 answer BAD_ARG. -/
def argKey (args : List Word) : Option KeyArgs := do
  let source ← argOwnSource args 0
  let target ← argTarget args 2
  let cls ← argFin 4 args 5
  let intr ← argFlag args 6
  if target.station.val = 63 ∧ target.kind = .mix then none
  pure ⟨source, target, cls, intr⟩

/-! ### Ring messages ("Word layouts") -/

/-- The `n`-bit field of a word whose lowest bit is `lo`. -/
def bits (w : Word) (lo n : Nat) : Nat := w.toNat >>> lo % 2 ^ n

/-- Whether a header is a NOTE's. -/
def isNote (h : Word) : Bool := h.msb

/-- The hop count field of a header. -/
def hopOf (h : Word) : Fin 64 := Fin.ofNat 64 (bits h 25 6)

/-- The origin field of a header. -/
def originOf (h : Word) : Station := Fin.ofNat 64 (bits h 19 6)

/-- The length field of a header. -/
def lengthOf (h : Word) : Nat := bits h 13 6

/-- The note kind field of a header. -/
def kindOf (h : Word) : Nat := bits h 10 3

/-- The target field of a header. -/
def targetOf (h : Word) : Station := Fin.ofNat 64 (bits h 4 6)

/-- A header with its hop count field set. -/
def withHop (h : Word) (hop : Nat) : Word := (h &&& 0x81FFFFFF) ||| word (hop * 2 ^ 25)

/-- The header of a message with hop count 0. -/
def headerWord (note : Bool) (origin : Station) (length kind : Nat) (target : Station) : Word :=
  word ((if note then 2 ^ 31 else 0) + origin.val * 2 ^ 19 + length * 2 ^ 13 + kind * 2 ^ 10 + target.val * 2 ^ 4)

/-- One bit of the CRC-32 with generator 0x04C11DB7, most significant bit first. -/
def crcStep (c : Word) : Word := if c.msb then (c <<< 1) ^^^ 0x04C11DB7 else c <<< 1

/-- `n` bits of the CRC. -/
def crcShift : Nat → Word → Word
  | 0, c => c
  | n + 1, c => crcShift n (crcStep c)

/-- One word of the CRC. -/
def crcWord (c w : Word) : Word := crcShift 32 (c ^^^ w)

/-- The check word of the words before it: initial value 0xFFFFFFFF, the hop count field of the header taken as zero, the remainder inverted. -/
def checkWord : List Word → Word
  | [] => 0
  | h :: rest => ~~~ (rest.foldl crcWord (crcWord 0xFFFFFFFF (withHop h 0)))

/-- The words of a message, its check word last, from its words before the check word (R97). -/
def sealed (ws : List Word) : List Word := ws ++ [checkWord ws]

/-- The words of a note inserted by station `own` (R97). -/
def Note.words (own : Station) (n : Note) : List Word :=
  match n.body with
  | .presence stamp l d =>
    sealed [headerWord true own 4 0 n.target, word (stamp.toNat * 2 ^ 16), word (l.toNat * 2 ^ 8 + d.toNat)]
  | .join i c => sealed [headerWord true own 3 1 n.target, word (i.val * 2 ^ 27 + c.val * 2 ^ 25)]
  | .leave i => sealed [headerWord true own 3 2 n.target, word (i.val * 2 ^ 27)]
  | .talk t src c i k v =>
    sealed [headerWord true own 4 3 n.target,
      word (t.val * 2 ^ 27 + src.station.val * 2 ^ 21 + src.index.val * 2 ^ 16 + c.val * 2 ^ 14 + (if i then 2 ^ 13 else 0)),
      word (targetKindCode k * 2 ^ 31 + v.val * 2 ^ 26)]
  | .talkEnd t => sealed [headerWord true own 3 4 n.target, word (t.val * 2 ^ 27)]
  | .talkState t m a r =>
    sealed [headerWord true own 3 5 n.target, word (t.val * 2 ^ 27 + m.val * 2 ^ 22 + a.code * 2 ^ 19 + r.code * 2 ^ 15)]

/-- The words of a burst inserted by station `own` (R97, R133). -/
def Burst.words (own : Station) (b : Burst) : List Word :=
  sealed (headerWord false own 51 0 0 :: word (b.source.val * 2 ^ 27 + b.cls.val * 2 ^ 25 + b.seq.toNat) ::
    b.samples.toList.map (fun x => x.signExtend 32))

/-- The words of a message inserted by station `own`. -/
def Message.words (own : Station) : Message → List Word
  | .note n => n.words own
  | .burst b => b.words own

/-- The first step of R94: the check word of a copy is the CRC of the words before it. -/
def crcGood (ws : List Word) : Bool := ws.getLast? = some (checkWord ws.dropLast)

/-- The second step of R94: the length suits the kind; a NOTE of kind 6 or 7 passes. -/
def lengthGood (h : Word) : Bool :=
  if isNote h then
    match kindOf h with
    | 0 => lengthOf h = 4
    | 3 => lengthOf h = 4
    | 1 => lengthOf h = 3
    | 2 => lengthOf h = 3
    | 4 => lengthOf h = 3
    | 5 => lengthOf h = 3
    | _ => true
  else lengthOf h = 51

/-- Both steps of R94 on the words of a copy. -/
def copyGood (ws : List Word) : Bool := crcGood ws && lengthGood (ws.getD 0 0)

/-- Word `i` of a copy. -/
def copyWord (ws : List Word) (i : Nat) : Word := ws.getD i 0

/-- A good copy as the command that hands it to its owner; none for a note of kind 6 or 7 (R94, R99). Bits that "Word layouts" gives as zero are not read: DESIGN CHOICE (log entry 33). -/
def copyCommand (ws : List Word) : Option Instr :=
  let h := copyWord ws 0
  let b := copyWord ws 1
  let c := copyWord ws 2
  let number := Fin.ofNat 32 (bits b 27 5)
  if isNote h then
    match kindOf h with
    | 0 => some (.presence true (originOf h) (targetOf h) (hopOf h) (BitVec.ofNat 16 (bits b 16 16)) (BitVec.ofNat 8 (bits c 8 8)) (BitVec.ofNat 8 (bits c 0 8)))
    | 1 => some (.join true (originOf h) (targetOf h) number (Fin.ofNat 4 (bits b 25 2)))
    | 2 => some (.leave true (originOf h) (targetOf h) number)
    | 3 => some (.talk true (originOf h) (targetOf h) number ⟨Fin.ofNat 64 (bits b 21 6), Fin.ofNat 32 (bits b 16 5)⟩ (Fin.ofNat 4 (bits b 14 2)) (bits b 13 1 == 1)
        (if c.msb then .group else .mix) (Fin.ofNat 32 (bits c 26 5)))
    | 4 => some (.talkEnd true (originOf h) (targetOf h) number)
    | 5 => some (.talkState true (originOf h) (targetOf h) number (Fin.ofNat 32 (bits b 22 5)) (Fin.ofNat 8 (bits b 19 3)) (Fin.ofNat 16 (bits b 15 4)))
    | _ => none
  else some (.burst true (originOf h) number (Fin.ofNat 4 (bits b 25 2)) (BitVec.ofNat 16 (bits b 0 16))
    (Vector.ofFn fun n => (copyWord ws (n.val + 2)).setWidth 24))

/-- A good check copy as the command that hands it to its test (R91). -/
def checkCopyCommand (ws : List Word) : Instr := .presenceCheckCopy true (BitVec.ofNat 16 (bits (copyWord ws 1) 16 16))

/-! ### Field words ("Word layouts") -/

/-- An IDLE field word. -/
def idleFieldWord : Word := 0

/-- A SAMPLE field word with its payload. -/
def sampleFieldWord (x : Sample) : Word := 0x1#4 ++ 0x0#4 ++ x

/-- The 16 code bits of a CODE payload; bits 23 to 16 are not read (R165). -/
def codeBits (payload : Sample) : BitVec 16 := payload.setWidth 16

/-- The command that a word on a port's inbound link is, by its marker; markers 7 to 15 are read as IDLE (R161). Bits 27 to 24, and the payload of a marker that has none, are not read: DESIGN CHOICE (log entry 33). -/
def fieldCommand (k : PortNo) (w : Word) : Instr :=
  let payload : Sample := w.setWidth 24
  match bits w 28 4 with
  | 1 => .sampleWord k payload
  | 2 => .trainWord k
  | 3 => .codeWord k payload
  | 4 => .talkOnWord k
  | 5 => .talkOffWord k
  | 6 => .endWord k
  | m => .idleWord k (Fin.ofNat 16 m)

/-! ### Frames of the control port ("Control frames") -/

/-- The command of the table that a command code names, with its argument words. -/
def codeCommand (code : Nat) (args : List Word) : Option Instr :=
  match code with
  | 0x01 => some (.configure args)
  | 0x02 => some (.keyDown args)
  | 0x03 => some (.keyUp args)
  | 0x04 => some (.setRoute args)
  | 0x05 => some (.fieldReset args)
  | 0x20 => some (.readRoutes args)
  | 0x21 => some (.readOutTalk args)
  | 0x22 => some (.readFeed args)
  | 0x23 => some (.readField args)
  | 0x24 => some (.readListen args)
  | 0x25 => some (.readSend args)
  | 0x26 => some (.readRoster args)
  | 0x27 => some (.readCounters args)
  | 0x28 => some (.nextEvent args)
  | 0x29 => some (.readInTalks args)
  | _ => none

/--
The commands that a whole frame is: a complete command of the table, the words after its last argument word not being
read, and then the release; any other frame is its release alone (R185). Bits 11 to 0 of the header are not read:
DESIGN CHOICE (log entry 33).
-/
def frameCommands (received : List Word) : List Instr :=
  match received with
  | [] => [.frameAbort []]
  | h :: args =>
    let n := bits h 12 12
    if args.length < n then [.frameAbort received]
    else match codeCommand (bits h 24 8) (args.take n) with
      | some c => [c, .frameAbort []]
      | none => [.frameAbort received]

end Sys2Proof.Machine
end

