-- ==== Sys2Proof/Machine/Ops.lean ====
section
/-!
DEFINITION. The operations every chapter shares: the clock, the event queue (R191), the note queue (R135), the
response of the control port (R185, R186), the counters, and the views of the state that pins and readers see.
-/

namespace Sys2Proof.Machine

/-! ### Time -/

/-- `n` reference counts pass (section 2.1, R103, R160). -/
def Clock.advance (c : Clock) (n : Nat) : Clock where
  now := c.now + n
  startCounter := c.startCounter + BitVec.ofNat 16 n
  stampCounter := c.stampCounter + BitVec.ofNat 24 n

/-- Whole milliseconds elapsed since reference time `t`. -/
def State.elapsedMs (s : State) (t : Nat) : Nat := (s.clock.now - t) / Config.countsPerMs

/-- Whole milliseconds elapsed since reference time `t`, saturating at 65535. -/
def State.elapsedSat (s : State) (t : Nat) : Nat := min (s.elapsedMs t) 65535

/-! ### Station -/

/-- Whether CONFIGURE has been taken since device reset (section 6.2). -/
def State.configured (s : State) : Bool := s.mode != .unconfigured

/-- Whether the ring bypass is closed (R87). -/
def State.bypassClosed (s : State) : Bool := s.mode == .unconfigured

/-! ### Ring-out and the passing of time (R86, R92, R97, R98) -/

/-- Ring-out is not free for cut-through: an insertion is in flight, or the buffer has words or an idle symbol to let out (R92, R98). -/
def Ring.holding (r : Ring) : Bool := r.insertion.isSome || !r.buffer.isEmpty || r.gapOwed

/-- One word time of ring-out: the insertion's next symbol, the idle symbol owed, the next buffered word, or else `through` (R92, R97, R98). -/
def Ring.emit (r : Ring) (through : Symbol) : Ring :=
  match r.insertion with
  | some i =>
    match i.left with
    | x :: xs => { r with out := x, insertion := some { i with left := xs } }
    | [] => { r with out := .idle }
  | none =>
    if r.gapOwed then { r with out := .idle, gapOwed := false }
    else match r.buffer with
      | h :: hs => { r with out := .data h.word, buffer := hs, gapOwed := h.ends }
      | [] => { r with out := through }

/-- Ring-out has a symbol of an insertion or of the buffer to let out (R97, R98). -/
def Ring.emitting (r : Ring) : Bool :=
  match r.insertion with
  | some i => !i.left.isEmpty
  | none => r.gapOwed || !r.buffer.isEmpty

/-- `n` word times in which ring-in delivers nothing: what is held leaves, one symbol a word time, then ring-out carries idle symbols (R86, R97, R98). -/
def Ring.sweep : Nat → Ring → Ring
  | 0, r => r
  | n + 1, r =>
    if r.emitting then Ring.sweep n { r.emit .idle with swept := r.swept ++ [(r.emit .idle).out] }
    else { r with out := .idle }

/-- No more word times than this pass before all that is held has left. -/
def Ring.owed (r : Ring) : Nat :=
  (match r.insertion with
    | some i => i.left.length
    | none => 0) + 2 * r.buffer.length + 1

/-- Ring-out after `n` word times in which ring-in delivers nothing, with `swept` what left in them. -/
def Ring.coast (r : Ring) (n : Nat) : Ring :=
  if n = 0 then r else Ring.sweep (min n r.owed) { r with swept := [] }

/-- The whole word times, 80 ns each, in a number of reference counts (section 6.1). -/
def wordTimes (counts : Nat) : Nat := counts * 3125 / 6144

/--
The clock stands at least at reference time `t`: an event that has a time of its own is taken no earlier (log entry 3).
While ring-in has lost alignment no symbol arrives, and ring-out goes on by the clock (R86; log entry 10).
-/
def State.reach (s : State) (t : Nat) : State :=
  let passed := wordTimes (t - s.ring.alignedAt) - wordTimes (s.clock.now - s.ring.alignedAt)
  { s with
    clock := s.clock.advance (t - s.clock.now)
    ring := if s.ring.aligned || s.bypassClosed then s.ring else s.ring.coast passed }

/-! ### Roster -/

/-- Whether a station is PRESENT in the roster; a station field of 63 has no record (section 7.2). -/
def State.isPresent (s : State) (st : Station) : Bool :=
  if h : st.val < 63 then s.roster[st.val].present else false

/-! ### Events -/

/-- An event is queued, or lost at a full queue (R191). -/
def EventQueue.push (q : EventQueue) (e : Event) : EventQueue :=
  if q.queue.length < Config.maxEvents then { q with queue := q.queue ++ [e] }
  else { q with lost := satInc q.lost }

/-- An owner queues an event (R191). -/
def State.emit (s : State) (e : Event) : State := { s with events := s.events.push e }

/-- The event line is asserted while the queue holds an event (R192). -/
def State.eventLine (s : State) : Bool := !s.events.queue.isEmpty

/-! ### Counters -/

/-- A counter changes. -/
def State.count (s : State) (f : Counters → Counters) : State := { s with counters := f s.counters }

/-- CHECK + 1 (R101). -/
def Counters.incCheck (c : Counters) : Counters := { c with check := satInc c.check }

/-- PARTIAL + 1 (R101). -/
def Counters.incPartial (c : Counters) : Counters := { c with partialCopies := satInc c.partialCopies }

/-- The dispatcher's ignored notes + 1 (R99). -/
def Counters.incRingIgnored (c : Counters) : Counters := { c with ringIgnored := satInc c.ringIgnored }

/-- DROP_OLD + 1 (R134). -/
def Counters.incDropOld (c : Counters) : Counters := { c with dropOld := satInc c.dropOld }

/-- LATE_TX + 1 (R137). -/
def Counters.incLateTx (c : Counters) : Counters := { c with lateTx := satInc c.lateTx }

/-- STALE + 1 (R138). -/
def Counters.incStale (c : Counters) : Counters := { c with stale := satInc c.stale }

/-- NOTE_DROP + 1 (R135). -/
def Counters.incNoteDrop (c : Counters) : Counters := { c with noteDrop := satInc c.noteDrop }

/-- Station-wide LATE_RX + 1 (R157). -/
def Counters.incLateRx (c : Counters) : Counters := { c with lateRx := satInc c.lateRx }

/-- Station-wide DUP + 1 (R157). -/
def Counters.incDup (c : Counters) : Counters := { c with dup := satInc c.dup }

/-- Station-wide RESYNC + 1 (R157). -/
def Counters.incResync (c : Counters) : Counters := { c with resync := satInc c.resync }

/-- Station-wide CONCEAL + 1 (R157). -/
def Counters.incConceal (c : Counters) : Counters := { c with conceal := satInc c.conceal }

/-- OVERRUN + 1 (R184). -/
def Counters.incOverrun (c : Counters) : Counters := { c with overrun := satInc c.overrun }

/-- UNDERRUN + 1 (R184). -/
def Counters.incUnderrun (c : Counters) : Counters := { c with underrun := satInc c.underrun }

/-- The arbiter's ignored notes + 1 (R50). -/
def Counters.incArbiterIgnored (c : Counters) : Counters := { c with arbiterIgnored := satInc c.arbiterIgnored }

/-- The send table's ignored notes + 1 (R117, R118). -/
def Counters.incSendIgnored (c : Counters) : Counters := { c with sendIgnored := satInc c.sendIgnored }

/-- The talker's ignored counter + 1 (R72, R77). -/
def Counters.incTalkerIgnored (c : Counters) : Counters := { c with talkerIgnored := satInc c.talkerIgnored }

/-! ### Notes -/

/-- A note is handed to the transmit scheduler (R135; in an UNCONFIGURED station none is handed, R142). -/
def State.hand (s : State) (n : Note) : State :=
  match s.mode with
  | .active =>
    if s.sched.notes.length < Config.maxNotes then
      { s with sched := { s.sched with notes := s.sched.notes ++ [n] } }
    else s.count Counters.incNoteDrop
  | .silent => s
  | .unconfigured => s

/-! ### The control port's responses -/

/--
A command is taken and answered: its response replaces the one held, and its frame, which the select line still holds
open, sends the response held at the assertion (R185).
-/
def State.respond (s : State) (code : BitVec 8) (result : Result) (reason : RefusalReason) (words : List Word) : State :=
  { s with response := some ⟨code, result, reason, words⟩, selected := true, frameReply := s.response }

/-- The answer DONE with its return words. -/
def State.done (s : State) (code : BitVec 8) (words : List Word) : State := s.respond code .done .none words

/-- The answer BAD_ARG. -/
def State.badArg (s : State) (code : BitVec 8) : State := s.respond code .badArg .none []

/-- The answer NOT_CONFIGURED. -/
def State.notConfigured (s : State) (code : BitVec 8) : State := s.respond code .notConfigured .none []

/-- The answer REFUSED with its reason. -/
def State.refuse (s : State) (code : BitVec 8) (why : RefusalReason) : State := s.respond code .refused why []

/-- The words a response frame carries: with no held response, code 0, BAD_ARG and no return words (R185). -/
def frameOf (held : Option Response) : List Word :=
  match held with
  | some r => r.frame
  | none => Response.frame ⟨0, .badArg, .none, []⟩

/-- The words of the held response, which the next frame sends (R185). -/
def State.responseFrame (s : State) : List Word := frameOf s.response

/-- The words that the frame in progress, or the last one, sends: the response held at its assertion (R185). -/
def State.sentFrame (s : State) : List Word := frameOf s.frameReply

/-- A frame that takes no command is over: it sent the held response (R185). -/
def State.readFrame (s : State) : State := { s with selected := false, frameReply := s.response }

/-- Check 1 of R186 on the argument word count, then the command's own meaning. -/
def State.command (s : State) (code : BitVec 8) (count : Nat) (args : List Word) (own : State → State) : State :=
  if args.length = count then own s else s.badArg code

/-- Checks 1 and 2 of R186, then the command's own meaning. -/
def State.configuredCommand (s : State) (code : BitVec 8) (count : Nat) (args : List Word) (own : State → State) : State :=
  s.command code count args fun s => if s.configured then own s else s.notConfigured code

/-- A read whose one argument is a number below `n`: BAD_ARG out of range, else DONE with the words of that place (R190). -/
def State.read (s : State) (code : BitVec 8) (n : Nat) (args : List Word) (words : Fin n → List Word) : State :=
  s.command code 1 args fun s =>
    match argFin n args 0 with
    | none => s.badArg code
    | some k => s.done code (words k)

/-! ### Words from outside, as the commands they are -/

/-- A word arrives on the inbound link of a port (R161). -/
def State.withFieldWord (s : State) (k : PortNo) (w : Word) : State := { s with pending := s.pending ++ [fieldCommand k w] }

/-- A frame is clocked in on the control port, from the assertion of the select line to its release (R185). -/
def State.withFrame (s : State) (received : List Word) : State := { s with pending := s.pending ++ frameCommands received }

/-! ### Output lines -/

/-- The sample output line K n plays in the present sample period (R19). -/
def State.lineOut (s : State) (n : Fin 16) : Sample :=
  match s.audio.playing[n] with
  | some b => b.toList.getD s.audio.current.length 0
  | none => 0

end Sys2Proof.Machine
end

