-- ==== Sys2Proof/Machine/Listen.lean ====
section
/-!
DEFINITION. The listen table (chapter 10) and its end of a subscription (section 8.3): creation and release of
entries, the JOINs and LEAVEs they hand, the arrival of bursts, the play at a pass, absence and return.
-/

namespace Sys2Proof.Machine

/-! ### The table -/

/-- A listen entry is placed in the table, changed, or removed. -/
def State.setListen (s : State) (k : Fin 32) (e : Option ListenEntry) : State :=
  { s with listens := s.listens.set k e }

/-- The index of the entry of a remote source (R144: each source at most once). -/
def State.findListen (s : State) (r : Remote) : Option (Fin 32) :=
  (List.finRange 32).find? fun k => (s.listens[k].map ListenEntry.source) == some r

/-- The lowest index that no entry holds (R145). -/
def State.freeListen (s : State) : Option (Fin 32) :=
  (List.finRange 32).find? fun k => s.listens[k].isNone

/-- How many listen entries exist (R104, R145). -/
def State.listenCount (s : State) : Nat := (List.finRange 32).countP fun k => s.listens[k].isSome

/-! ### JOIN and LEAVE -/

/-- An entry hands a JOIN with its class, and its refresh timer starts again from this moment (R121, R123). -/
def State.handJoin (s : State) (k : Fin 32) : State :=
  match s.listens[k] with
  | none => s
  | some e =>
    (s.setListen k (some { e with lastJoin := some s.clock.now })).hand
      ⟨e.source.station, .join e.source.index e.cls⟩

/-- The entry a creation makes for a source, before any JOIN (R145). -/
def ListenEntry.created (r : Remote) (refs : Nat) (c : Cls) (absent : Bool) : ListenEntry where
  source := r
  refCount := refs
  cls := c
  state := .empty
  absent := absent
  play := none
  buffer := []
  last := Block.silence
  miss := 0
  lateRx := 0
  dup := 0
  resync := 0
  conceal := 0
  lastJoin := none

/-- A listen entry is created at the lowest free index, with its JOIN unless its source's station is ABSENT (R122, R145). -/
def State.createListen (s : State) (r : Remote) (refs : Nat) (c : Cls) : State :=
  match s.freeListen with
  | none => s
  | some k =>
    let absent := !s.isPresent r.station
    let made := s.setListen k (some (ListenEntry.created r refs c absent))
    if absent then made else made.handJoin k

/-- A listen entry hands its one LEAVE and is removed (R125, R146). -/
def State.releaseListen (s : State) (k : Fin 32) : State :=
  match s.listens[k] with
  | none => s
  | some e => (s.setListen k none).hand ⟨e.source.station, .leave e.source.index⟩

/-- An entry takes its reference count and its class; a changed class is told by a JOIN while the mark is clear (R13, R15, R124). -/
def State.updateListen (s : State) (k : Fin 32) (refs : Nat) (c : Cls) : State :=
  match s.listens[k] with
  | none => s
  | some e =>
    let kept := s.setListen k (some { e with refCount := refs, cls := c })
    if c = e.cls ∨ e.absent then kept else kept.handJoin k

/-! ### Arrival of a burst (section 10.3) -/

/-- Whether a jitter buffer holds the block of a sequence. -/
def ListenEntry.holds (e : ListenEntry) (q : Seq) : Bool := e.buffer.any fun b => b.seq == q

/-- Priming ends when the buffer holds the jitter target's number of blocks (R150). -/
def ListenEntry.endPriming (e : ListenEntry) (target : Nat) : ListenEntry :=
  if e.state = .priming ∧ target ≤ e.buffer.length then { e with state := .playing } else e

/-- An arriving block primes the entry afresh on its sequence: at an EMPTY entry, or by RESYNC (R148, R149). -/
def ListenEntry.prime (e : ListenEntry) (q : Seq) (b : Block) : ListenEntry :=
  { e with play := some q, buffer := [⟨q, b⟩], miss := 0, state := .priming }

/-- What an arriving burst does to its entry, and what it counts (R148, R149). -/
inductive Arrived where
  | stored
  | late
  | dup
  | resync
  deriving DecidableEq, Repr

/-- An entry takes an arriving burst (R148 to R150). -/
def ListenEntry.arrive (e : ListenEntry) (target : Nat) (q : Seq) (b : Block) : ListenEntry × Arrived :=
  match e.state, e.play with
  | .empty, _ => ((e.prime q b).endPriming target, .stored)
  | _, none => ((e.prime q b).endPriming target, .stored)
  | _, some p =>
    let d := serialDiff q p
    if d < 0 then ({ e with lateRx := satInc e.lateRx }, .late)
    else if 8 ≤ d then
      ((({ e with resync := satInc e.resync } : ListenEntry).prime q b).endPriming target, .resync)
    else if e.holds q then ({ e with dup := satInc e.dup }, .dup)
    else (({ e with buffer := e.buffer ++ [⟨q, b⟩] } : ListenEntry).endPriming target, .stored)

/-- The station-wide counter an arrival raises (R157). -/
def Arrived.count : Arrived → Counters → Counters
  | .stored, c => c
  | .late, c => c.incLateRx
  | .dup, c => c.incDup
  | .resync, c => c.incResync

/-- A good burst copy reaches the listen table; without an entry for its source it is discarded uncounted (R94, R148). -/
def State.takeBurst (s : State) (origin : Station) (index : Fin 32) (q : Seq) (b : Block) : State :=
  if h : index.val < 24 then
    match s.findListen ⟨origin, ⟨index.val, h⟩⟩ with
    | none => s
    | some k =>
      match s.listens[k] with
      | none => s
      | some e =>
        let (e', what) := e.arrive s.cfg.jitterTarget q b
        (s.setListen k (some e')).count what.count
  else s

/-! ### Play at the start of a pass (section 10.4) -/

/-- An entry becomes EMPTY: by its eighth miss in a row, or by a report of absence (R110, R154, R156). -/
def ListenEntry.emptied (e : ListenEntry) : ListenEntry :=
  { e with state := .empty, play := none, buffer := [], miss := 0, last := Block.silence }

/-- The concealment of a miss: the last played block halved at the first miss, silence after it (R154). -/
def ListenEntry.concealment (e : ListenEntry) : Block :=
  if e.miss = 0 then Vector.ofFn fun n => halved e.last[n] else Block.silence

/-- A missing block is concealed, and the eighth miss in a row empties the entry (R154). -/
def ListenEntry.missed (e : ListenEntry) (p : Seq) : ListenEntry :=
  let e' := { e with conceal := satInc e.conceal, miss := e.miss + 1, play := some (p + 1) }
  if 8 ≤ e'.miss then e'.emptied else e'

/-- An entry plays one block: the block, the entry after the play, and whether it was a concealment (R152 to R154). -/
def ListenEntry.playOne (e : ListenEntry) : Block × ListenEntry × Bool :=
  match e.state, e.play with
  | .playing, some p =>
    match e.buffer.find? (fun b => b.seq == p) with
    | some b =>
      (b.samples,
        { e with buffer := e.buffer.filter (fun x => x.seq != p), last := b.samples, miss := 0, play := some (p + 1) },
        false)
    | none => (e.concealment, e.missed p, true)
  | _, _ => (Block.silence, e, false)

/-- The block the entry of a remote source plays at this pass start; silence where no entry exists (R24). -/
def State.playedBlock (s : State) (r : Remote) : Block :=
  match s.findListen r with
  | some k => ((s.listens[k].map fun e => e.playOne.1).getD Block.silence)
  | none => Block.silence

/-- Every listen entry plays one block (R24), and the concealments are counted (R157). -/
def State.playAll (s : State) : State :=
  let misses := (List.finRange 32).countP fun k => (s.listens[k].map fun e => e.playOne.2.2) == some true
  { s with
    listens := Vector.ofFn fun k => s.listens[k].map fun e => e.playOne.2.1
    counters := Nat.repeat Counters.incConceal misses s.counters }

/-! ### Absence and return (R110, R111) -/

/-- One entry takes its part of a report of absence (R110). -/
def State.absentListen (st : Station) (s : State) (k : Fin 32) : State :=
  match s.listens[k] with
  | none => s
  | some e => if e.source.station = st then s.setListen k (some { e.emptied with absent := true }) else s

/-- The listen table takes a report of absence (R110). -/
def State.listenAbsence (s : State) (st : Station) : State :=
  (List.finRange 32).foldl (State.absentListen st) s

/-- One entry takes its part of a report of return (R111). -/
def State.returnListen (st : Station) (s : State) (k : Fin 32) : State :=
  match s.listens[k] with
  | none => s
  | some e =>
    if e.source.station = st ∧ e.absent then (s.setListen k (some { e with absent := false })).handJoin k else s

/-- The listen table takes a report of return (R111). -/
def State.listenReturn (s : State) (st : Station) : State :=
  (List.finRange 32).foldl (State.returnListen st) s

/-- The words of a listen entry as READ-LISTEN returns it (R158). -/
def State.listenWords (s : State) (e : ListenEntry) : List Word :=
  let stored : List Seq := match e.play with
    | none => e.buffer.map fun b => b.seq
    | some p => ((List.range 8).map fun d => p + BitVec.ofNat 16 d).filter e.holds
  [word e.source.station.val, word e.source.index.val, word e.refCount, word e.cls.val, word e.state.code,
    flagWord e.absent, optWord (e.play.map BitVec.toNat)] ++
  listWords (stored.map fun q => [word q.toNat]) ++
  [word e.miss, word e.lateRx, word e.dup, word e.resync, word e.conceal, optWord (e.lastJoin.map s.elapsedSat)]

/-! ### Meanings -/

/-- The JOIN refresh timer of an entry runs out, 200 ms after its last JOIN: it hands a JOIN while its mark is clear (R123). -/
def execJoinRefreshExpiry (k : Fin 32) (s : State) : Host.Outcome State Fault Refusal :=
  .next (match s.listens[k] with
    | none => s
    | some e =>
      match e.absent, e.lastJoin with
      | false, some t => (s.reach (t + Config.ms 200)).handJoin k
      | _, _ => s)

/-- READ-LISTEN (R158). -/
def execReadListen (args : List Word) (s : State) : Host.Outcome State Fault Refusal :=
  .next (s.read 0x24 32 args fun k =>
    match s.listens[k] with
    | none => [noneWord]
    | some e => s.listenWords e)

end Sys2Proof.Machine
end

