-- ==== Sys2Proof/Machine/Routes.lean ====
section
/-!
DEFINITION. The route table (chapter 1): conversion of source addresses, recomputation of entries, the requests
hold, release and hold exchange, what the listen table is told, and the commands SET-ROUTE and READ-ROUTES.
-/

namespace Sys2Proof.Machine

/-! ### Inputs -/

/-- A source address as an input of the station with number `own`; none where R10 fails a hold at once for its station or index (R1, R10). -/
def toInput (own : Option Station) (a : SourceAddr) : Option Input :=
  if h : a.index.val < 24 then
    if a.station.val = 63 then none
    else if some a.station = own then
      if h16 : a.index.val < 16 then some (.loc ⟨a.index.val, h16⟩)
      else some (.field ⟨a.index.val - 16, by omega⟩)
    else some (.remote ⟨a.station, ⟨a.index.val, h⟩⟩)
  else none

/-- The input a source address names at this station (R1). -/
def State.input (s : State) (a : SourceAddr) : Option Input := toInput s.cfg.number a

/-- Whether an input is the field source of the mix's own port: mix T k and input F k. -/
def loops (m : Mix) : Input → Bool
  | .field k => m.val == 16 + k.val
  | _ => false

/-- The remote source of an input, as a list of at most one. -/
def Input.remotes : Input → List Remote
  | .remote r => [r]
  | _ => []

/-! ### Entries -/

/-- The lowest class number of a list; C3 for none. -/
def minClass (cs : List Cls) : Cls := cs.foldl min 3

/-- An entry's talk level and class from the classes of its holders (R4). -/
def Route.recompute (cfg : StationConfig) (holders : List Cls) (r : Route) : Route :=
  { r with
    talkLevel := (holders.map fun c => cfg.talkLevels[c]).foldl max 0
    cls := minClass (holders ++ if 0 < r.fixedLevel then [cfg.fixedClass] else []) }

/-- The classes of the records of a list whose source is the input `i` (R4). -/
def State.holderClasses (s : State) (records : List InTalk) (i : Input) : List Cls :=
  (records.filter fun t => s.input t.source == some i).map InTalk.cls

/-- Whether a mix's entries have one for an input. -/
def hasRoute (rs : List Route) (i : Input) : Bool := rs.any fun r => r.input == i

/-- The entry for an input changes in its place. -/
def changeRoute (rs : List Route) (i : Input) (f : Route → Route) : List Route :=
  rs.map fun r => if r.input = i then f r else r

/-- The entry for an input loses one holder, and is removed when neither holders nor a fixed level remain (R3, R11). -/
def dropHolder (cfg : StationConfig) (left : List Cls) (rs : List Route) (i : Input) : List Route :=
  rs.filterMap fun r =>
    if r.input = i then
      if r.holders - 1 = 0 ∧ r.fixedLevel = 0 then none
      else some ({ r with holders := r.holders - 1 }.recompute cfg left)
    else some r

/-- The entry for an input gains one holder, created last when there is none (R10). -/
def addHolder (cfg : StationConfig) (classes : List Cls) (rs : List Route) (i : Input) : List Route :=
  if hasRoute rs i then
    changeRoute rs i fun r => { r with holders := r.holders + 1 }.recompute cfg classes
  else rs ++ [(⟨i, 0, 1, 0, 3⟩ : Route).recompute cfg classes]

/-- How many entries the route table holds (section 1.3). -/
def tableSize (routes : Vector (List Route) 24) : Nat :=
  ((List.finRange 24).map fun m => routes[m].length).sum

/-- The entries of all mixes whose input is a remote source (R14, R15). -/
def entriesOf (routes : Vector (List Route) 24) (r : Remote) : List Route :=
  (List.finRange 24).flatMap fun m => routes[m].filter fun e => e.input == .remote r

/-- The route entries of a mix are replaced. -/
def State.setRoutes (s : State) (m : Mix) (rs : List Route) : State := { s with routes := s.routes.set m rs }

/-! ### Telling the listen table (R13 to R15) -/

/-- The listen table is told that a source has no route entry left (R13). -/
def State.tellRelease (s : State) (r : Remote) : State :=
  match s.findListen r with
  | some k => if entriesOf s.routes r = [] then s.releaseListen k else s
  | none => s

/-- The listen table is told of a source's first route entry (R13). -/
def State.tellCreate (s : State) (r : Remote) : State :=
  match s.findListen r, entriesOf s.routes r with
  | none, e :: es => s.createListen r (e :: es).length (minClass ((e :: es).map Route.cls))
  | _, _ => s

/-- A listen entry takes the reference count and the class its route entries give it (R14, R15). -/
def State.tellUpdate (s : State) (r : Remote) : State :=
  match s.findListen r with
  | some k =>
    let es := entriesOf s.routes r
    s.updateListen k es.length (minClass (es.map Route.cls))
  | none => s

/-- The listen table is told of the net change of the sources a request touched: releases, creations, then classes (R13, R15; log entry 15). -/
def State.tellListens (s : State) (rs : List Remote) : State :=
  rs.foldl State.tellUpdate (rs.foldl State.tellCreate (rs.foldl State.tellRelease s))

/-! ### Requests -/

/-- The first of the three space tests of R8 that a new entry for `i` in `m` fails, `freed` listen entries counting as free. -/
def State.spaceTest (s : State) (m : Mix) (i : Input) (freed : Nat) : Option RefusalReason :=
  if Config.maxRoutes ≤ tableSize s.routes then some .tableFull
  else if Config.maxRoutesPerMix ≤ s.routes[m].length then some .mixFull
  else match i with
    | .remote r =>
      if s.findListen r = none ∧ Config.maxListens + freed ≤ s.listenCount then some .listenFull else none
    | _ => none

/-- Whether a hold of input `i` on mix `m` finds an entry or passes the space tests (R10). -/
def State.canHold (s : State) (m : Mix) (i : Input) (freed : Nat) : Bool :=
  !loops m i && (hasRoute s.routes[m] i || (s.spaceTest m i freed).isNone)

/-- A hold request for a record not yet in the granted list: none when it fails (R10). -/
def State.hold (s : State) (m : Mix) (a : SourceAddr) (c : Cls) : Option State :=
  match s.input a with
  | none => none
  | some i =>
    if s.canHold m i 0 then
      let classes := s.holderClasses s.talks[m].granted i ++ [c]
      some ((s.setRoutes m (addHolder s.cfg classes s.routes[m] i)).tellListens i.remotes)
    else none

/-- A release request for a record that has left the granted list (R11). -/
def State.release (s : State) (m : Mix) (a : SourceAddr) : State :=
  match s.input a with
  | none => s
  | some i =>
    let left := s.holderClasses s.talks[m].granted i
    (s.setRoutes m (dropHolder s.cfg left s.routes[m] i)).tellListens i.remotes

/-- The listen entries whose source has no route entry (R12: they count as free within an exchange). -/
def State.freedListens (s : State) : Nat :=
  (List.finRange 32).countP fun k =>
    match s.listens[k] with
    | some e => entriesOf s.routes e.source == []
    | none => false

/-- A hold exchange, `rest` being the granted records of the mix without the victim: none when it fails, which leaves everything as it was (R12). -/
def State.exchange (s : State) (m : Mix) (victim : InTalk) (rest : List InTalk) (a : SourceAddr) (c : Cls) : Option State :=
  match s.input victim.source, s.input a with
  | some vi, some i =>
    let classes := s.holderClasses rest i ++ [c]
    if vi = i then
      some ((s.setRoutes m (changeRoute s.routes[m] i (Route.recompute s.cfg classes))).tellListens i.remotes)
    else
      let freed := s.setRoutes m (dropHolder s.cfg (s.holderClasses rest vi) s.routes[m] vi)
      if freed.canHold m i freed.freedListens then
        some ((freed.setRoutes m (addHolder s.cfg classes freed.routes[m] i)).tellListens (vi.remotes ++ i.remotes))
      else none
  | _, _ => none

/-! ### SET-ROUTE and READ-ROUTES -/

/-- The control code of SET-ROUTE. -/
def codeSetRoute : BitVec 8 := 0x04

/-- SET-ROUTE with a level above 0 for a key that has an entry (R7). -/
def State.routeSet (s : State) (r : RouteArgs) : State :=
  let classes := s.holderClasses s.talks[r.mix].granted r.input
  (s.setRoutes r.mix
    (changeRoute s.routes[r.mix] r.input fun e =>
      if e.fixedLevel = r.level then e else { e with fixedLevel := r.level }.recompute s.cfg classes)).tellListens
    r.input.remotes

/-- SET-ROUTE with a level above 0 for a key that has no entry, past its space tests (R8). -/
def State.routeCreate (s : State) (r : RouteArgs) : State :=
  (s.setRoutes r.mix (s.routes[r.mix] ++ [⟨r.input, r.level, 0, 0, s.cfg.fixedClass⟩])).tellListens r.input.remotes

/-- SET-ROUTE with level 0 for a key that has an entry: its fixed part is removed (R9). -/
def State.routeClear (s : State) (r : RouteArgs) : State :=
  let classes := s.holderClasses s.talks[r.mix].granted r.input
  (s.setRoutes r.mix (s.routes[r.mix].filterMap fun e =>
    if e.input = r.input then
      if e.holders = 0 then none else some ({ e with fixedLevel := 0 }.recompute s.cfg classes)
    else some e)).tellListens r.input.remotes

/-- SET-ROUTE past its checks (R7 to R9). -/
def State.routeCommand (s : State) (r : RouteArgs) : State :=
  if hasRoute s.routes[r.mix] r.input then
    (if r.level = 0 then s.routeClear r else s.routeSet r).done codeSetRoute []
  else if r.level = 0 then s.done codeSetRoute []
  else match s.spaceTest r.mix r.input 0 with
    | some why => s.refuse codeSetRoute why
    | none => (s.routeCreate r).done codeSetRoute []

/-- SET-ROUTE (R6 to R9, R186). -/
def execSetRoute (args : List Word) (s : State) : Host.Outcome State Fault Refusal :=
  .next (s.configuredCommand codeSetRoute 5 args fun s =>
    match argRoute s.cfg.number args with
    | none => s.badArg codeSetRoute
    | some r => if loops r.mix r.input then s.refuse codeSetRoute .loop else s.routeCommand r)

/-- READ-ROUTES (R5). -/
def execReadRoutes (args : List Word) (s : State) : Host.Outcome State Fault Refusal :=
  .next (s.read 0x20 24 args fun m => listWords (s.routes[m].map (Route.words m)))

end Sys2Proof.Machine
end

