-- ==== Sys2Proof/Machine/Tally.lean ====
section
/-!
DEFINITION. The talker's replies, summaries and tally events (sections 5.5 and 5.6): what a TALK-STATE does to an
outgoing talk record, and what the absence of an answering station does.
-/

namespace Sys2Proof.Machine

/-- An outgoing talk record is placed in the table, changed, or removed. -/
def State.setOut (s : State) (n : TalkNo) (t : Option OutTalk) : State := { s with outTalks := s.outTalks.set n t }

/-- The summary of a record, in R79's order of precedence. -/
def summaryOf (replies : List Reply) (heard ran : Bool) : Summary :=
  if replies.any (fun r => r.answer == .granted) then .granted
  else if replies.any (fun r => r.answer == .waiting || r.answer == .preempted) then .waiting
  else if replies.any (fun r => r.answer == .refused || r.answer == .lapsed) then .refused
  else if replies.isEmpty && !heard && ran then .unanswered
  else .pending

/-- A record with its summary recomputed (R79). -/
def OutTalk.summed (t : OutTalk) : OutTalk := { t with summary := summaryOf t.replies t.heard t.answerTimerRan }

/-- A record is placed with its summary recomputed, and a TALLY event tells a change of it (R79, R81). -/
def State.putSummed (s : State) (n : TalkNo) (before : Summary) (t : OutTalk) : State :=
  let t' := t.summed
  let placed := s.setOut n (some t')
  if t'.summary = before then placed else placed.emit (.tally n t'.origin t'.summary false)

/-- A reply in the reply list: in its entry's place, at the end, or not stored and counted at a full list (R78). -/
def OutTalk.addReply (t : OutTalk) (r : Reply) : OutTalk :=
  if t.replies.any (fun x => x.station == r.station && x.mix == r.mix) then
    { t with replies := t.replies.map fun x => if x.station = r.station ∧ x.mix = r.mix then r else x }
  else if t.replies.length < Config.maxReplies then { t with replies := t.replies ++ [r] }
  else { t with overflow := satInc t.overflow }

/-- Whether a record accepts a reply of a station for a mix (R77). -/
def OutTalk.accepts (t : OutTalk) (st : Station) (m : Fin 32) : Bool :=
  (t.target.station.val == 63 || t.target.station == st) && (t.target.kind == .group || t.target.value == m)

/-- The talker takes a reply: accepted into its record, or counted as ignored (R77, R78). -/
def State.takeReply (s : State) (n : TalkNo) (r : Reply) : State :=
  match s.outTalks[n] with
  | none => s.count Counters.incTalkerIgnored
  | some t =>
    if t.accepts r.station r.mix then s.putSummed n t.summary { t.addReply r with heard := true }
    else s.count Counters.incTalkerIgnored

/-- One record loses its reply entries of a station (R80). -/
def State.dropReplies (st : Station) (s : State) (n : TalkNo) : State :=
  match s.outTalks[n] with
  | none => s
  | some t => s.putSummed n t.summary { t with replies := t.replies.filter fun r => r.station != st }

/-- The talker takes a report of absence (R80). -/
def State.talkerAbsence (s : State) (st : Station) : State := (List.finRange 32).foldl (State.dropReplies st) s

end Sys2Proof.Machine
end

