-- ==== Sys2Proof/Machine/Arbiter.lean ====
section
/-!
DEFINITION. The talk arbiter (chapter 4): the arrival of a TALK, slots, pre-emption and the wait list, the freeing of a
slot and promotion, TALK-END, lapse, the removals for an absent talker and for a field port that leaves its admitted
states, and READ-IN-TALKS.
-/

namespace Sys2Proof.Machine

/-! ### The table -/

/-- The granted and wait lists of a mix are replaced. -/
def State.setTalks (s : State) (m : Mix) (t : MixTalks) : State := { s with talks := s.talks.set m t }

/-- How many records the incoming talk table holds (R48). -/
def State.talkCount (s : State) : Nat :=
  ((List.finRange 24).map fun m => s.talks[m].granted.length + s.talks[m].waiting.length).sum

/-- Whether a record is that of a talker and a talk number. -/
def InTalk.isOf (t : InTalk) (talker : Station) (n : TalkNo) : Bool := t.talker == talker && t.number == n

/-- The wait list with a record that begins waiting without pre-emption (R49). -/
def enqueue (ws : List InTalk) (t : InTalk) : List InTalk :=
  ws.takeWhile (fun w => decide (w.cls ≤ t.cls)) ++ t :: ws.dropWhile fun w => decide (w.cls ≤ t.cls)

/-- The wait list with a record that begins waiting because it was pre-empted (R49). -/
def enqueuePreempted (ws : List InTalk) (t : InTalk) : List InTalk :=
  ws.takeWhile (fun w => decide (w.cls < t.cls)) ++ t :: ws.dropWhile fun w => decide (w.cls < t.cls)

/-! ### Replies and events -/

/-- A mix as the responding mix field of a TALK-STATE. -/
def mixField (m : Mix) : Fin 32 := ⟨m.val, by omega⟩

/-- The arbiter answers a talker: directly to the own talker, by a TALK-STATE note to a peer (R63). -/
def State.answer (s : State) (talker : Station) (n : TalkNo) (m : Fin 32) (a : TalkAnswer) (r : Reason) : State :=
  if some talker = s.cfg.number then s.takeReply n ⟨talker, m, a, r⟩
  else s.hand ⟨talker, .talkState n m a r⟩

/-- The arbiter answers the talker of a record (R63). -/
def State.answerFor (s : State) (m : Mix) (t : InTalk) (a : TalkAnswer) (r : Reason) : State :=
  s.answer t.talker t.number (mixField m) a r

/-- An INCOMING event of a record that became GRANTED or stopped being GRANTED (R65). -/
def State.incoming (s : State) (m : Mix) (t : InTalk) (granted : Bool) (c : Cause) : State :=
  s.emit (.incoming m t.talker t.number t.source t.cls t.intr granted c)

/-! ### Freeing a slot and promotion (section 4.4) -/

/-- A record as it stands when it becomes GRANTED at block counter `b` (R53, R58). -/
def InTalk.grantedAt (t : InTalk) (b : Seq) : InTalk := { t with preempted := false, orderStamp := b }

/-- Free slots of a mix are filled from the wait list, `ws` being the wait list from its head on (R58); DESIGN CHOICE (log entry 32): the answer of a promotion comes ahead of its INCOMING event. -/
def State.fillFrom (m : Mix) : List InTalk → State → State
  | [], s => s
  | w :: ws, s =>
    if s.talks[m].granted.length < Config.slots then
      let waiting := s.setTalks m { s.talks[m] with waiting := ws }
      match waiting.hold m w.source w.cls with
      | some held =>
        let t := w.grantedAt held.audio.blockCounter
        let placed := held.setTalks m { held.talks[m] with granted := held.talks[m].granted ++ [t] }
        State.fillFrom m ws ((placed.answerFor m t .granted .none).incoming m t true .promote)
      | none => State.fillFrom m ws (waiting.answerFor m w .refused .noRoute)
    else s

/-- Free slots of a mix are filled from its wait list (R58). -/
def State.fill (s : State) (m : Mix) : State := State.fillFrom m s.talks[m].waiting s

/-- A GRANTED record leaves the table: its hold is released and its INCOMING event queued; its slot is not yet filled (R58). -/
def State.dropGranted (s : State) (m : Mix) (t : InTalk) (c : Cause) : State :=
  ((s.setTalks m { s.talks[m] with granted := s.talks[m].granted.erase t }).release m t.source).incoming m t false c

/-- A WAITING record leaves the table (R57). -/
def State.dropWaiting (s : State) (m : Mix) (t : InTalk) : State :=
  s.setTalks m { s.talks[m] with waiting := s.talks[m].waiting.erase t }

/-! ### Arrival of a TALK (sections 4.2 and 4.3) -/

/-- What a TALK carries for the arbiter, with its talker station (R48, R50). -/
structure TalkRequest where
  talker : Station
  number : TalkNo
  source : SourceAddr
  cls : Cls
  intr : Bool
  deriving DecidableEq, Repr

/-- The record a TALK creates at reference time `t` and block counter `b` (R53 to R55). -/
def TalkRequest.record (q : TalkRequest) (t : Nat) (b : Seq) : InTalk where
  talker := q.talker
  number := q.number
  source := q.source
  cls := q.cls
  intr := q.intr
  preempted := false
  lastRefresh := t
  orderStamp := b

/-- The admitted states of a field port (section 11.1). -/
def PortState.admitted : PortState → Bool
  | .settling => true
  | .live => true
  | .retraining => true
  | _ => false

/-- The field port of a mix T k. -/
def portOf (m : Mix) : Option PortNo :=
  if h : 16 ≤ m.val then some ⟨m.val - 16, by omega⟩ else none

/-- The mix T k of a field port. -/
def returnMix (k : PortNo) : Mix := ⟨16 + k.val, by omega⟩

/-- The first of the four tests of R52 that a new talk for a mix fails. -/
def State.talkTest (s : State) (m : Mix) (q : TalkRequest) : Option Reason :=
  let down := match portOf m with
    | some k => !s.ports[k].state.admitted
    | none => false
  let loop := match s.input q.source with
    | some i => loops m i
    | none => false
  if down then some .destDown
  else if loop then some .loop
  else if some q.talker ≠ s.cfg.number ∧ ¬ s.isPresent q.talker then some .talkerGone
  else if Config.maxTalks ≤ s.talkCount then some .noRoom
  else none

/-- The victim of a mix with two GRANTED records: the highest class number, the later granted of equals (R54). -/
def victimOf (granted : List InTalk) : Option InTalk :=
  granted.foldl (fun v t => match v with
    | none => some t
    | some w => if w.cls ≤ t.cls then some t else some w) none

/-- A new talk for a mix with a free slot (R53); DESIGN CHOICE (log entry 32): its answer, and the TALLY event a direct one makes, comes ahead of its INCOMING event. -/
def State.grantTalk (s : State) (m : Mix) (q : TalkRequest) : State :=
  match s.hold m q.source q.cls with
  | some held =>
    let t := q.record held.clock.now held.audio.blockCounter
    let placed := held.setTalks m { held.talks[m] with granted := held.talks[m].granted ++ [t] }
    (placed.answerFor m t .granted .none).incoming m t true .grant
  | none => s.answer q.talker q.number (mixField m) .refused .noRoute

/-- A new talk pre-empts the victim, or is refused with the victim restored (R55, R56); DESIGN CHOICE (log entry 32): both answers come ahead of both INCOMING events. -/
def State.preempt (s : State) (m : Mix) (q : TalkRequest) (v : InTalk) : State :=
  let rest := s.talks[m].granted.erase v
  match s.exchange m v rest q.source q.cls with
  | some held =>
    let t := q.record held.clock.now held.audio.blockCounter
    let w := { v with preempted := true, orderStamp := held.audio.blockCounter }
    let placed := held.setTalks m ⟨rest ++ [t], enqueuePreempted held.talks[m].waiting w⟩
    (((placed.answerFor m w .preempted .none).answerFor m t .granted .none).incoming m w false .preempted).incoming
      m t true .grant
  | none => s.answer q.talker q.number (mixField m) .refused .noRoute

/-- A new talk begins waiting without pre-emption (R54). -/
def State.waitTalk (s : State) (m : Mix) (q : TalkRequest) : State :=
  let t := q.record s.clock.now s.audio.blockCounter
  (s.setTalks m { s.talks[m] with waiting := enqueue s.talks[m].waiting t }).answerFor m t .waiting .none

/-- A new talk for a mix is tested and arbitrated (R52 to R56). -/
def State.newTalk (s : State) (m : Mix) (q : TalkRequest) : State :=
  match s.talkTest m q with
  | some why => s.answer q.talker q.number (mixField m) .refused why
  | none =>
    if s.talks[m].granted.length < Config.slots then s.grantTalk m q
    else match victimOf s.talks[m].granted with
      | some v => if q.cls < v.cls then s.preempt m q v else s.waitTalk m q
      | none => s.waitTalk m q

/-- A record of the same key is refreshed in its place (R51). -/
def refreshIn (ts : List InTalk) (q : TalkRequest) (now : Nat) : List InTalk :=
  ts.map fun t => if t.isOf q.talker q.number then { t with lastRefresh := now } else t

/-- A record leaves the table by TALK-END or by a change of source: no reply, and a freed slot is filled (R51, R59). -/
def State.endRecord (s : State) (m : Mix) (talker : Station) (n : TalkNo) : State :=
  match s.talks[m].granted.find? (fun t => t.isOf talker n) with
  | some t => (s.dropGranted m t .ended).fill m
  | none =>
    match s.talks[m].waiting.find? (fun t => t.isOf talker n) with
    | some t => s.dropWaiting m t
    | none => s

/-- A TALK for one mix: a refresh, a reuse of its number for another source, or a new talk (R51). -/
def State.takeTalkMix (q : TalkRequest) (s : State) (m : Mix) : State :=
  let refreshed := s.setTalks m
    ⟨refreshIn s.talks[m].granted q s.clock.now, refreshIn s.talks[m].waiting q s.clock.now⟩
  match s.talks[m].granted.find? (fun t => t.isOf q.talker q.number) with
  | some t =>
    if t.source = q.source then refreshed.answer q.talker q.number (mixField m) .granted .none
    else (s.endRecord m q.talker q.number).newTalk m q
  | none =>
    match s.talks[m].waiting.find? (fun t => t.isOf q.talker q.number) with
    | some t =>
      if t.source = q.source then
        refreshed.answer q.talker q.number (mixField m) (if t.preempted then .preempted else .waiting) .none
      else (s.endRecord m q.talker q.number).newTalk m q
    | none => s.newTalk m q

/-- The mixes of a feed group, in increasing mix number (R50). -/
def State.groupMixes (s : State) (g : Fin 32) : List Mix :=
  (List.finRange 24).filter fun m => s.cfg.mixes[m].group.val == g.val

/-- The arbiter takes a TALK addressed to the own station, or to all stations (R50). -/
def State.takeTalk (s : State) (toAll : Bool) (q : TalkRequest) (kind : TargetKind) (value : Fin 32) : State :=
  match kind with
  | .mix =>
    if toAll then s.count Counters.incArbiterIgnored
    else if h : value.val < 24 then s.takeTalkMix q ⟨value.val, h⟩
    else s.answer q.talker q.number value .refused .badTarget
  | .group =>
    if 1 ≤ value.val ∧ value.val ≤ 7 then (s.groupMixes value).foldl (State.takeTalkMix q) s
    else if toAll then s.count Counters.incArbiterIgnored
    else s.answer q.talker q.number value .refused .badTarget

/-- The arbiter takes a TALK-END: the talk's record on every mix ends, in increasing mix number (R59). -/
def State.takeTalkEnd (s : State) (talker : Station) (n : TalkNo) : State :=
  (List.finRange 24).foldl (fun s m => s.endRecord m talker n) s

/-! ### Lapse and the removals for an absent talker or a lost port -/

/-- A record lapses (R60). -/
def State.lapse (s : State) (m : Mix) (t : InTalk) (wasGranted : Bool) : State :=
  if wasGranted then ((s.dropGranted m t .timeout).answerFor m t .lapsed .timeout).fill m
  else (s.dropWaiting m t).answerFor m t .lapsed .timeout

/-- One WAITING record is removed with its LAPSED answer (R61, R62). -/
def State.removeWaiting (m : Mix) (why : Reason) (s : State) (t : InTalk) : State :=
  (s.dropWaiting m t).answerFor m t .lapsed why

/-- One GRANTED record is removed with its release, INCOMING event and LAPSED answer (R61, R62). -/
def State.removeGranted (m : Mix) (why : Reason) (c : Cause) (s : State) (t : InTalk) : State :=
  (s.dropGranted m t c).answerFor m t .lapsed why

/-- The records of a talker on one mix are removed, the WAITING ones first (R61 step 1); DESIGN CHOICE (log entry 37): several WAITING ones go in wait order, two GRANTED ones in grant order. -/
def State.removeTalker (st : Station) (s : State) (m : Mix) : State :=
  (s.talks[m].granted.filter fun t => t.talker == st).foldl (State.removeGranted m .talkerGone .talkerGone)
    ((s.talks[m].waiting.filter fun t => t.talker == st).foldl (State.removeWaiting m .talkerGone) s)

/-- The arbiter takes a report of absence or restart: all records of the talker go, then the freed slots are filled (R61). -/
def State.arbiterAbsence (s : State) (st : Station) : State :=
  (List.finRange 24).foldl State.fill ((List.finRange 24).foldl (State.removeTalker st) s)

/-- Every record on a port's mix T k is removed as the port leaves its admitted states (R62). -/
def State.clearReturnMix (s : State) (k : PortNo) : State :=
  let m := returnMix k
  s.talks[m].granted.foldl (State.removeGranted m .destDown .destDown)
    (s.talks[m].waiting.foldl (State.removeWaiting m .destDown) s)

/-! ### Meanings -/

/-- The lapse timer of a record runs out, 150 ms after its last refresh (R60). -/
def execLapseTimerExpiry (talker : Station) (n : TalkNo) (m : Mix) (s : State) : Host.Outcome State Fault Refusal :=
  .next (match s.talks[m].granted.find? (fun t => t.isOf talker n) with
    | some t => (s.reach (t.lastRefresh + Config.ms 150)).lapse m t true
    | none =>
      match s.talks[m].waiting.find? (fun t => t.isOf talker n) with
      | some t => (s.reach (t.lastRefresh + Config.ms 150)).lapse m t false
      | none => s)

/-- The words of an incoming talk record, the fields of R48 in order (R66). -/
def State.inTalkWords (s : State) (m : Mix) (waiting : Bool) (t : InTalk) : List Word :=
  [word t.talker.val, word t.number.val] ++ sourceWords t.source ++
    [word m.val, word t.cls.val, flagWord t.intr, flagWord waiting, flagWord t.preempted, word (s.elapsedMs t.lastRefresh),
      word t.orderStamp.toNat]

/-- READ-IN-TALKS (R66, R187); DESIGN CHOICE (log entry 36): the granted list and the wait list are one list, with one count word. -/
def execReadInTalks (args : List Word) (s : State) : Host.Outcome State Fault Refusal :=
  .next (s.read 0x29 24 args fun m =>
    listWords (s.talks[m].granted.map (s.inTalkWords m false) ++ s.talks[m].waiting.map (s.inTalkWords m true)))

end Sys2Proof.Machine
end

