-- ==== Sys2Proof/Machine/Talker.lean ====
section
/-!
DEFINITION. The talker (chapter 5): creation, refresh and release of outgoing talks, the delivery of their TALK and
TALK-END, the talk of a field port, and the commands KEY-DOWN, KEY-UP and READ-OUT-TALK.
-/

namespace Sys2Proof.Machine

/-- Whether the own arbiter hears a note of the talker directly: its target is the own station or 63 (R73). -/
def State.direct (s : State) (st : Station) : Bool := st.val == 63 || some st == s.cfg.number

/-- A note of the talker goes to the ring unless its target is the own station (R73). -/
def State.toRing (s : State) (st : Station) (body : NoteBody) : State :=
  if some st = s.cfg.number then s else s.hand ⟨st, body⟩

/-- The own station number, where the station has one. -/
def State.ownStation (s : State) : Station := s.cfg.number.getD 63

/-- What a record's TALK asks of the arbiter (R73). -/
def State.requestOf (s : State) (n : TalkNo) (t : OutTalk) : TalkRequest where
  talker := s.ownStation
  number := n
  source := ⟨s.ownStation, ⟨t.source.val, by omega⟩⟩
  cls := t.cls
  intr := t.intr

/-- The talker sends a TALK for a record: to the own arbiter first, then to the ring (R73). -/
def State.sendTalk (s : State) (n : TalkNo) (t : OutTalk) : State :=
  let q := s.requestOf n t
  let heard :=
    if s.direct t.target.station then
      s.takeTalk (t.target.station.val == 63) q t.target.kind t.target.value
    else s
  heard.toRing t.target.station (.talk n q.source t.cls t.intr t.target.kind t.target.value)

/-- The talker sends the TALK-END of a record, to the same targets (R73). -/
def State.sendTalkEnd (s : State) (n : TalkNo) (t : OutTalk) : State :=
  let heard := if s.direct t.target.station then s.takeTalkEnd s.ownStation n else s
  heard.toRing t.target.station (.talkEnd n)

/-- The lowest talk number that no record holds (R70). -/
def State.freeTalk (s : State) : Option TalkNo :=
  (List.finRange 32).find? fun n => s.outTalks[n].isNone

/-- A record as it is created at reference time `now` (R71, R74). -/
def OutTalk.fresh (source : SourceNo) (target : TalkTarget) (c : Cls) (intr : Bool) (o : Origin) (now : Nat) : OutTalk where
  source := source
  target := target
  cls := c
  intr := intr
  origin := o
  replies := []
  overflow := 0
  summary := .pending
  created := now
  heard := false
  refreshDue := now + Config.ms 50
  answerTimerRan := false

/-- A record is created under a talk number, with its TALLY event and its first TALK (R71). -/
def State.createTalk (s : State) (n : TalkNo) (t : OutTalk) : State :=
  ((s.setOut n (some t)).emit (.tally n t.origin .pending false)).sendTalk n t

/-- A record is released: TALK-END, timers, TALLY event, talk number (R75). -/
def State.releaseTalk (s : State) (n : TalkNo) : State :=
  match s.outTalks[n] with
  | none => s
  | some t =>
    let told := s.sendTalkEnd n t
    (told.emit (.tally n t.origin ((told.outTalks[n].map OutTalk.summary).getD t.summary) true)).setOut n none

/-- The talk number of the record with origin FIELD k (R72). -/
def State.portTalk (s : State) (k : PortNo) : Option TalkNo :=
  (List.finRange 32).find? fun n => (s.outTalks[n].map OutTalk.origin) == some (.field k)

/-- The talker releases the record with origin FIELD k, if one exists (R76). -/
def State.releasePortTalk (s : State) (k : PortNo) : State :=
  match s.portTalk k with
  | some n => s.releaseTalk n
  | none => s

/--
A TALK_ON word of a LIVE port is handed to the talker (R72). DESIGN CHOICE (log entry 34): the cases of a discard are
tested in the order of R72's list, so one with a record of the port and no free talk number is not counted.
-/
def State.portTalkOn (s : State) (k : PortNo) : State :=
  match s.portTalk k, s.ports[k].target with
  | none, some target =>
    if target.station.val = 63 ∧ target.kind = .mix then s.count Counters.incTalkerIgnored
    else match s.freeTalk with
      | none => s.count Counters.incTalkerIgnored
      | some n => s.createTalk n (OutTalk.fresh ⟨16 + k.val, by omega⟩ target 2 true (.field k) s.clock.now)
  | _, _ => s

/-! ### Meanings -/

/-- The control code of KEY-DOWN. -/
def codeKeyDown : BitVec 8 := 0x02

/-- The control code of KEY-UP. -/
def codeKeyUp : BitVec 8 := 0x03

/-- KEY-DOWN (R71). -/
def execKeyDown (args : List Word) (s : State) : Host.Outcome State Fault Refusal :=
  .next (s.configuredCommand codeKeyDown 7 args fun s =>
    match argKey args with
    | none => s.badArg codeKeyDown
    | some k =>
      match s.freeTalk with
      | none => s.refuse codeKeyDown .talkFull
      | some n =>
        (s.createTalk n (OutTalk.fresh k.source k.target k.cls k.intr .panel s.clock.now)).done codeKeyDown [word n.val])

/-- KEY-UP (R75). -/
def execKeyUp (args : List Word) (s : State) : Host.Outcome State Fault Refusal :=
  .next (s.configuredCommand codeKeyUp 1 args fun s =>
    match argFin 32 args 0 with
    | none => s.badArg codeKeyUp
    | some n => (s.releaseTalk n).done codeKeyUp [])

/-- The refresh timer of a record runs out: its TALK is sent again (R74). -/
def execRefreshTimerExpiry (n : TalkNo) (s : State) : Host.Outcome State Fault Refusal :=
  .next (match s.outTalks[n] with
    | none => s
    | some t =>
      let t' := { t with refreshDue := t.refreshDue + Config.ms 50 }
      ((s.reach t.refreshDue).setOut n (some t')).sendTalk n t')

/-- The UNANSWERED timer of a record runs out, 150 ms after its creation (R79). -/
def execUnansweredTimerExpiry (n : TalkNo) (s : State) : Host.Outcome State Fault Refusal :=
  .next (match s.outTalks[n] with
    | none => s
    | some t =>
      if t.answerTimerRan then s
      else
        let ran := s.reach (t.created + Config.ms 150)
        let t' := { t with answerTimerRan := true }
        if t.replies.isEmpty && !t.heard then ran.putSummed n t.summary t' else ran.setOut n (some t'))

/-- The words of an outgoing talk record, the fields of R69 in order (R82). -/
def State.outTalkWords (s : State) (n : TalkNo) (t : OutTalk) : List Word :=
  word n.val :: ownInputWords t.source ++ t.target.words ++ [word t.cls.val, flagWord t.intr, word t.origin.code] ++
    listWords (t.replies.map fun r => [word r.station.val, word r.mix.val, word r.answer.code, word r.reason.code]) ++
    [word t.overflow, word t.summary.code, word (s.elapsedSat t.created), flagWord t.heard]

/-- READ-OUT-TALK (R82). -/
def execReadOutTalk (args : List Word) (s : State) : Host.Outcome State Fault Refusal :=
  .next (s.read 0x21 32 args fun n =>
    match s.outTalks[n] with
    | none => [noneWord]
    | some t => s.outTalkWords n t)

end Sys2Proof.Machine
end

