-- ==== Sys2Proof/Machine/Fields.lean ====
section
/-!
DEFINITION. The field ports (chapters 11 and 12): training, the access code, admission, leaving the admitted states,
rate matching, return feeds, and the commands FIELD-RESET and READ-FIELD.
-/

namespace Sys2Proof.Machine

/-! ### Changes of state -/

/-- A field port is replaced. -/
def State.setPort (s : State) (k : PortNo) (p : Port) : State := { s with ports := s.ports.set k p }

/-- The FIELD event of a change from state `before` to the port `p` (R173). -/
def State.fieldEvent (s : State) (k : PortNo) (before : PortState) (p : Port) (f : PortFault) : State :=
  s.emit (.field k before p.state f p.idResult p.failures p.interval s.audio.blockCounter)

/-- The last fault: a fault other than NONE replaces it (R173). -/
def Port.faulted (p : Port) (f : PortFault) : Port := if f = .none then p else { p with lastFault := f }

/-- A port on entry to IDLE, from any state (R171, R172, R174); DEDUCED (log entry 21) where these do not name an item for the transition. -/
def Port.idled (p : Port) (f : PortFault) : Port :=
  { p with
    state := .idle, idResult := .notVerified, stamps := [], codes := []
    gapDue := none, codeDue := none, holdoffDue := none
    elastic := [], phaseIn := 0, lastIn := 0, progress := [], completed := Block.silence
    outbound := [], phaseOut := 0, lastOut := 0 }.faulted f

/-- A port on entry to SETTLING (R168, R174): the return path is kept, the link silence timer runs from the last word. -/
def Port.settle (p : Port) : Port :=
  { p with
    state := .settling, settled := 0, gapDue := none, codeDue := none
    elastic := [], phaseIn := 0, lastIn := 0, progress := [], completed := Block.silence }

/-- A port moves to a new state with its FIELD event. -/
def State.movePort (s : State) (k : PortNo) (p : Port) (f : PortFault) : State :=
  (s.setPort k p).fieldEvent k s.ports[k].state p f

/--
A port goes to IDLE with a fault, `p` being the port with any other change of the transition already made (a new
failure count). From an admitted state the FIELD event, the removal of the talks on T k, the release of the port's
own talk and the port's own change follow in R171's order.
-/
def State.toIdle (s : State) (k : PortNo) (p : Port) (f : PortFault) : State :=
  let p' := p.idled f
  if p.state.admitted then
    (((s.fieldEvent k p.state p' f).clearReturnMix k).releasePortTalk k).setPort k p'
  else s.movePort k p' f

/-! ### Training (section 11.2) -/

/-- A TRAIN word is the first of a training or a retraining (R162, R169). -/
def State.startTraining (s : State) (k : PortNo) (p : Port) (st : PortState) : State :=
  s.movePort k { p with state := st, stamps := [s.clock.stampCounter], gapDue := some (s.clock.now + Config.ms 10) } .none

/-- The intervals between stamps, each the later less the earlier modulo 16,777,216 (R160, R164). -/
def intervals : List Stamp → List Nat
  | a :: b :: rest => (b - a).toNat :: intervals (b :: rest)
  | _ => []

/-- The shortest of a list of intervals. -/
def shortest (l : List Nat) : Nat := l.foldl min (l.headD 0)

/-- The longest of a list of intervals. -/
def longest (l : List Nat) : Nat := l.foldl max 0

/-- The shortest of intervals 1 to 8 (R164). -/
def sMin (stamps : List Stamp) : Nat := shortest ((intervals stamps).take 8)

/-- The longest of intervals 9 to 16 (R164). -/
def sMax (stamps : List Stamp) : Nat := longest ((intervals stamps).drop 8)

/-- The interval I of seventeen stamps: the midpoint, rounded half up (R164). -/
def trainedInterval (stamps : List Stamp) : Nat := (sMin stamps + sMax stamps + 1) / 2

/-- The inbound step of an interval: 33,554,432 / I rounded half up (R164). -/
def inboundStep (i : Nat) : Nat := (2 * 33554432 + i) / (2 * i)

/-- The outbound step of an interval (R164). -/
def outboundStep (i : Nat) : Nat := 128 * i

/-- The fault of a completed training; none when it passes (R164). -/
def trainingFault (stamps : List Stamp) : Option PortFault :=
  let i := trainedInterval stamps
  if i < 512 ∨ 3072 < i then some .trainRange
  else if i / 16 < sMax stamps - sMin stamps then some .trainSpread
  else none

/-- A port whose training passed takes its interval and stages its steps (R164, R175). -/
def Port.trainedTo (p : Port) (i : Nat) : Port :=
  { p with
    interval := some i, stagedIn := some (inboundStep i), stagedOut := some (outboundStep i)
    trained := some (inboundStep i), gapDue := none }

/-- A training is complete at its 17th stamp, `p` holding all of them (R164). -/
def State.completeTraining (s : State) (k : PortNo) (p : Port) : State :=
  match trainingFault p.stamps with
  | some f => s.toIdle k p f
  | none =>
    let q := p.trainedTo (trainedInterval p.stamps)
    if p.state = .retraining then s.movePort k q.settle .none
    else if p.access = 0 then s.movePort k ({ q with idResult := .verified, failures := 0 }.settle) .none
    else s.movePort k { q with state := .checking, codes := [], codeDue := some (s.clock.now + Config.ms 50) } .none

/-- A further TRAIN word of a training (R163). -/
def State.nextStamp (s : State) (k : PortNo) (p : Port) : State :=
  let q := { p with stamps := p.stamps ++ [s.clock.stampCounter], gapDue := some (s.clock.now + Config.ms 10) }
  if 17 ≤ q.stamps.length then s.completeTraining k q else s.setPort k q

/-! ### The access code (section 11.3) -/

/-- The 48 bits of three code words, the first highest (R165). -/
def codeOf : List (BitVec 16) → BitVec 48
  | a :: b :: c :: _ => a ++ b ++ c
  | _ => 0

/-- The third CODE word has arrived: the access code is compared (R166). -/
def State.compareCode (s : State) (k : PortNo) (p : Port) : State :=
  if codeOf p.codes = p.access then s.movePort k ({ p with idResult := .verified, failures := 0 }.settle) .none
  else if p.failures + 1 < 3 then s.toIdle k { p with failures := p.failures + 1 } .codeMismatch
  else s.movePort k
    ({ p with
      state := .holdoff, idResult := .mismatch, failures := 3, codeDue := none
      holdoffDue := some (s.clock.now + Config.ms 2000) }.faulted .codeMismatch) .codeMismatch

/-- A CODE word in CHECKING (R165). -/
def State.takeCode (s : State) (k : PortNo) (p : Port) (payload : Sample) : State :=
  let q := { p with codes := p.codes ++ [codeBits payload] }
  if 3 ≤ q.codes.length then s.compareCode k q else s.setPort k q

/-! ### Arrival of a word (R161) -/

/-- Every word at an enabled port restarts its link silence timer; a DISABLED port takes no word (R161). -/
def State.takeWord (s : State) (k : PortNo) (own : State → Port → State) : State :=
  let p := s.ports[k]
  if p.state = .disabled then s
  else
    let heard := { p with silenceDue := some (s.clock.now + Config.ms 20) }
    own (s.setPort k heard) heard

/-- A word that breaks a training, a retraining or a check: IDLE with TRAIN_BROKEN (R163, R165). -/
def State.breakTraining (s : State) (k : PortNo) (p : Port) : State := s.toIdle k p .trainBroken

/-- A SAMPLE is appended to the elastic buffer, or counted at a full one (R178). -/
def State.takeSample (s : State) (k : PortNo) (p : Port) (x : Sample) : State :=
  if p.elastic.length < Config.maxElastic then s.setPort k { p with elastic := p.elastic ++ [x] }
  else s.count Counters.incOverrun

/-! ### Block completions (R176, R177) -/

/-- The clamp margin m of a trained step (R175). -/
def clampMargin (t : Nat) : Nat := t / 128

/-- The staged inbound step a drift check writes, from the trained step, the active step and the fill (R177). -/
def driftStep (t a fill : Nat) : Nat :=
  if 120 < fill then min (a + 8) (t + clampMargin t)
  else if fill < 72 then max (a - 8) (t - clampMargin t)
  else a

/-- Step 1 of R176: the staged steps become active. -/
def Port.activate (p : Port) : Port := { p with activeIn := p.stagedIn, activeOut := p.stagedOut }

/-- Steps 1 to 3 of R176 at a SETTLING port, short of the change to LIVE. -/
def Port.settledBlock (p : Port) : Port := { p.activate with settled := min 8 (p.settled + 1) }

/-- Whether a port becomes LIVE at this block completion (R168). -/
def Port.goesLive (p : Port) : Bool :=
  p.state == .settling && p.settledBlock.settled == 8 && decide (Config.liveFill ≤ p.elastic.length)

/-- Steps 1 and 2 of R176 at a LIVE port (R177). -/
def Port.driftChecked (p : Port) : Port :=
  match p.trained, p.activate.activeIn with
  | some t, some a => { p.activate with stagedIn := some (driftStep t a p.elastic.length) }
  | _, _ => p.activate

/-- One port handles a block completion (R176). -/
def State.portCompletion (s : State) (k : PortNo) : State :=
  let p := s.ports[k]
  match p.state with
  | .settling =>
    if p.goesLive then s.movePort k { p.settledBlock with state := .live } .none else s.setPort k p.settledBlock
  | .live => s.setPort k p.driftChecked
  | _ => s

/-! ### The converters (sections 12.3 and 12.4) -/

/-- One output sample joins the inbound block in progress; the 48th completes it (R179). -/
def Port.produce (p : Port) (y : Sample) : Port :=
  let block := p.progress ++ [y]
  if 48 ≤ block.length then
    { p with lastIn := y, progress := [], completed := Vector.ofFn fun n => block.getD n.val 0 }
  else { p with lastIn := y, progress := block }

/-- The inbound converter at a sample moment with at least 2 samples (R180). -/
def Port.convertIn (p : Port) (x0 x1 : Sample) : Port :=
  let f := p.phaseIn + p.activeIn.getD 0
  { p.produce (interpolate x0 x1 p.phaseIn) with
    phaseIn := f % 65536
    elastic := p.elastic.drop (f / 65536) }

/-- The outbound converter at a word request with at least 2 samples (R183). -/
def Port.convertOut (p : Port) (x0 x1 : Sample) : Port :=
  let y := interpolate x0 x1 p.phaseOut
  let g := p.phaseOut + p.activeOut.getD 0
  { p with
    phaseOut := g % 65536
    outbound := p.outbound.drop (g / 65536)
    lastOut := y
    sent := some (sampleFieldWord y) }

/-- A T k block is delivered to its port (R182). -/
def State.deliverReturn (s : State) (k : PortNo) (b : Block) : State :=
  let p := s.ports[k]
  if p.state.admitted then
    let kept := p.outbound.drop (p.outbound.length - 48)
    let placed := s.setPort k { p with outbound := kept ++ b.toList }
    if 48 < p.outbound.length then placed.count Counters.incOverrun else placed
  else s

/-! ### Meanings -/

/-- TRAIN word (R162 to R164, R167, R169). -/
def execTrainWord (k : PortNo) (s : State) : Host.Outcome State Fault Refusal :=
  .next (s.takeWord k fun s p =>
    match p.state with
    | .idle => s.startTraining k { p with codes := [] } .training
    | .training => s.nextStamp k p
    | .retraining => s.nextStamp k p
    | .checking => s.breakTraining k p
    | .settling => s.startTraining k p .retraining
    | .live => s.startTraining k { p with progress := [] } .retraining
    | .holdoff => s
    | .disabled => s)

/-- CODE word (R165, R166, table "Words by state"). -/
def execCodeWord (k : PortNo) (payload : Sample) (s : State) : Host.Outcome State Fault Refusal :=
  .next (s.takeWord k fun s p =>
    match p.state with
    | .checking => s.takeCode k p payload
    | .training => s.breakTraining k p
    | .retraining => s.breakTraining k p
    | .idle => s
    | .settling => s
    | .live => s
    | .holdoff => s
    | .disabled => s)

/-- SAMPLE word (R178, table "Words by state"). -/
def execSampleWord (k : PortNo) (payload : Sample) (s : State) : Host.Outcome State Fault Refusal :=
  .next (s.takeWord k fun s p =>
    match p.state with
    | .settling => s.takeSample k p payload
    | .live => s.takeSample k p payload
    | .training => s.breakTraining k p
    | .checking => s.breakTraining k p
    | .retraining => s.breakTraining k p
    | .idle => s
    | .holdoff => s
    | .disabled => s)

/-- TALK_ON word (R72, table "Words by state"). -/
def execTalkOnWord (k : PortNo) (s : State) : Host.Outcome State Fault Refusal :=
  .next (s.takeWord k fun s p =>
    match p.state with
    | .live => s.portTalkOn k
    | .training => s.breakTraining k p
    | .checking => s.breakTraining k p
    | .retraining => s.breakTraining k p
    | .settling => s
    | .idle => s
    | .holdoff => s
    | .disabled => s)

/-- TALK_OFF word (R76, R168, table "Words by state"). -/
def execTalkOffWord (k : PortNo) (s : State) : Host.Outcome State Fault Refusal :=
  .next (s.takeWord k fun s p =>
    match p.state with
    | .settling => s.releasePortTalk k
    | .live => s.releasePortTalk k
    | .training => s.breakTraining k p
    | .checking => s.breakTraining k p
    | .retraining => s.breakTraining k p
    | .idle => s
    | .holdoff => s
    | .disabled => s)

/-- END word (R168, R169, table "Words by state"). -/
def execEndWord (k : PortNo) (s : State) : Host.Outcome State Fault Refusal :=
  .next (s.takeWord k fun s p =>
    match p.state with
    | .settling => s.toIdle k p .ended
    | .live => s.toIdle k p .ended
    | .training => s.breakTraining k p
    | .checking => s.breakTraining k p
    | .retraining => s.breakTraining k p
    | .idle => s
    | .holdoff => s
    | .disabled => s)

/-- IDLE word, or a word of marker 7 to 15 read as one (R161, table "Words by state"). -/
def execIdleWord (k : PortNo) (_marker : Fin 16) (s : State) : Host.Outcome State Fault Refusal :=
  .next (s.takeWord k fun s p =>
    match p.state with
    | .training => s.breakTraining k p
    | .retraining => s.breakTraining k p
    | .checking => s
    | .settling => s
    | .live => s
    | .idle => s
    | .holdoff => s
    | .disabled => s)

/-- The gap timer runs out in TRAINING or RETRAINING, 10 ms after the last TRAIN word (R163). -/
def execGapTimerExpiry (k : PortNo) (s : State) : Host.Outcome State Fault Refusal :=
  .next (match s.ports[k].gapDue with
    | some due =>
      if s.ports[k].state = .training ∨ s.ports[k].state = .retraining then
        (s.reach due).toIdle k s.ports[k] .trainTimeout
      else s
    | none => s)

/-- The code timer runs out in CHECKING, 50 ms after the 17th TRAIN word (R165). -/
def execCodeTimerExpiry (k : PortNo) (s : State) : Host.Outcome State Fault Refusal :=
  .next (match s.ports[k].codeDue with
    | some due => if s.ports[k].state = .checking then (s.reach due).toIdle k s.ports[k] .codeTimeout else s
    | none => s)

/-- The link silence timer runs out in SETTLING or LIVE, 20 ms after the last word (R170). -/
def execLinkSilenceExpiry (k : PortNo) (s : State) : Host.Outcome State Fault Refusal :=
  .next (match s.ports[k].silenceDue with
    | some due =>
      if s.ports[k].state = .settling ∨ s.ports[k].state = .live then
        (s.reach due).toIdle k s.ports[k] .linkLost
      else s
    | none => s)

/-- The holdoff timer runs out, 2 s after entry to HOLDOFF (R167). -/
def execHoldoffExpiry (k : PortNo) (s : State) : Host.Outcome State Fault Refusal :=
  .next (match s.ports[k].holdoffDue with
    | some due =>
      if s.ports[k].state = .holdoff then (s.reach due).toIdle k { s.ports[k] with failures := 0 } .none else s
    | none => s)

/-- The reference time of sample moment `j` of the present block period (R179). -/
def State.momentTime (s : State) (j : Nat) : Nat :=
  s.audio.completedAt + Config.firstMoment + Config.countsPerSample * j

/-- A sample moment of the inbound converter, which runs while the port is LIVE (R179 to R181). -/
def execInboundSampleMoment (k : PortNo) (s : State) : Host.Outcome State Fault Refusal :=
  .next (
    let p := s.ports[k]
    if p.state = .live then
      let at' := s.reach (s.momentTime p.progress.length)
      match p.elastic with
      | x0 :: x1 :: _ => at'.setPort k (p.convertIn x0 x1)
      | _ => (at'.setPort k (p.produce p.lastIn)).count Counters.incUnderrun
    else s)

/-- The field unit asks for one word (R183). -/
def execOutboundWordRequest (k : PortNo) (s : State) : Host.Outcome State Fault Refusal :=
  .next (
    let p := s.ports[k]
    if p.state = .live then
      match p.outbound with
      | x0 :: x1 :: _ => s.setPort k (p.convertOut x0 x1)
      | _ => (s.setPort k { p with sent := some (sampleFieldWord p.lastOut) }).count Counters.incUnderrun
    else s.setPort k { p with sent := some idleFieldWord })

/-- The control code of FIELD-RESET. -/
def codeFieldReset : BitVec 8 := 0x05

/-- FIELD-RESET (R172). -/
def execFieldReset (args : List Word) (s : State) : Host.Outcome State Fault Refusal :=
  .next (s.configuredCommand codeFieldReset 1 args fun s =>
    match argFin 8 args 0 with
    | none => s.badArg codeFieldReset
    | some k =>
      if s.ports[k].state = .disabled then s.done codeFieldReset []
      else (s.toIdle k { s.ports[k] with failures := 0 } .portReset).done codeFieldReset [])

/-- READ-FIELD (R173). -/
def execReadField (args : List Word) (s : State) : Host.Outcome State Fault Refusal :=
  .next (s.read 0x23 8 args fun k =>
    let p := s.ports[k]
    [word p.state.code, word p.idResult.code, optWord p.interval, optWord p.activeIn, word p.elastic.length,
      word p.failures, word p.lastFault.code])

end Sys2Proof.Machine
end

