-- ==== Sys2Proof/Machine/Sends.lean ====
section
/-!
DEFINITION. The send table (sections 8.1, 8.2 and 8.5): subscribers, the state and class they give a send entry,
JOIN, LEAVE, expiry, absence, and READ-SEND.
-/

namespace Sys2Proof.Machine

/-- The subscriber list of a send entry is replaced. -/
def State.setSend (s : State) (n : SourceNo) (l : List Subscriber) : State := { s with sends := s.sends.set n l }

/-- A send entry is SENDING while its list holds a subscriber (R116). -/
def State.sending (s : State) (n : SourceNo) : Bool := !s.sends[n].isEmpty

/-- The entry class: the lowest class number among the subscribers; none while IDLE (R116). -/
def State.sendClass (s : State) (n : SourceNo) : Option Cls :=
  match s.sends[n].map Subscriber.cls with
  | [] => none
  | c :: cs => some (cs.foldl min c)

/-- How many send entries are SENDING (R104). -/
def State.sendingCount (s : State) : Nat := (List.finRange 24).countP fun n => s.sending n

/-- A list without the subscriber of a station (R118, R119, R120). -/
def dropSubscriber (l : List Subscriber) (st : Station) : List Subscriber := l.filter fun x => x.station != st

/-- A JOIN of a PRESENT station in a subscriber list: refreshed in its place, or added last (R117). -/
def joinSubscriber (l : List Subscriber) (st : Station) (c : Cls) (now : Nat) : List Subscriber :=
  if l.any (fun x => x.station == st) then l.map fun x => if x.station = st then ⟨st, c, now⟩ else x
  else l ++ [⟨st, c, now⟩]

/-- The send table takes a JOIN (R117); DESIGN CHOICE (log entry 35): the source index is tested ahead of the presence of the origin. -/
def State.takeJoin (s : State) (st : Station) (index : Fin 32) (c : Cls) : State :=
  if h : index.val < 24 then
    if s.isPresent st then s.setSend ⟨index.val, h⟩ (joinSubscriber s.sends[index.val] st c s.clock.now) else s
  else s.count Counters.incSendIgnored

/-- The send table takes a LEAVE (R118). -/
def State.takeLeave (s : State) (st : Station) (index : Fin 32) : State :=
  if h : index.val < 24 then s.setSend ⟨index.val, h⟩ (dropSubscriber s.sends[index.val] st)
  else s.count Counters.incSendIgnored

/-- The send table takes a report of absence (R109, R120). -/
def State.sendAbsence (s : State) (st : Station) : State :=
  { s with sends := Vector.ofFn fun n => dropSubscriber s.sends[n] st }

/-! ### Meanings -/

/-- A subscriber's expiry timer runs out, 600 ms after its last JOIN (R119). -/
def execSubscriberExpiry (n : SourceNo) (st : Station) (s : State) : Host.Outcome State Fault Refusal :=
  .next (match s.sends[n].find? (fun x => x.station == st) with
    | some x => (s.reach (x.lastJoin + Config.ms 600)).setSend n (dropSubscriber s.sends[n] st)
    | none => s)

/-- READ-SEND (R128). -/
def execReadSend (args : List Word) (s : State) : Host.Outcome State Fault Refusal :=
  .next (s.read 0x25 24 args fun n =>
    [flagWord (s.sending n), optWord ((s.sendClass n).map Fin.val)] ++
      listWords (s.sends[n].map fun x => [word x.station.val, word x.cls.val, word (s.elapsedMs x.lastJoin)]))

end Sys2Proof.Machine
end

