-- ==== Sys2Proof/Machine/Roster.lean ====
section
/-!
DEFINITION. The station roster (chapter 7): PRESENCE notes of this station and of its peers, absence and return and
the reports to the four owners, the duplicate condition, and READ-ROSTER.
-/

namespace Sys2Proof.Machine

/-! ### Announcing this station -/

/-- The roster hands a PRESENCE note, in an ACTIVE station whose ring is UP (R104). -/
def State.announce (s : State) : State :=
  if s.mode = .active ∧ s.ring.status = .up then
    s.hand ⟨63, .presence (s.cfg.startStamp.getD 0) (BitVec.ofNat 8 s.listenCount) (BitVec.ofNat 8 s.sendingCount)⟩
  else s

/-! ### Telling the owners (R109, R111) -/

/-- A report of absence to the send table, the arbiter, the talker and the listen table, in this order (R109). -/
def State.reportAbsence (s : State) (st : Station) : State :=
  (((s.sendAbsence st).arbiterAbsence st).talkerAbsence st).listenAbsence st

/-- A report of return: only the listen table acts on it (R111). -/
def State.reportReturn (s : State) (st : Station) : State := s.listenReturn st

/-- A STATION event (R112). -/
def State.stationEvent (s : State) (st : Station) (c : StationChange) (stamp : Option Seq) : State :=
  s.emit (.station st c stamp s.audio.blockCounter)

/-! ### The records -/

/-- A roster record is replaced; a station field of 63 has none. -/
def State.setRecord (s : State) (st : Station) (r : RosterRecord) : State :=
  if h : st.val < 63 then { s with roster := s.roster.set st.val r } else s

/-- The roster takes a PRESENCE of another station (R106, R107). -/
def State.takePresence (s : State) (st : Station) (hop : Fin 64) (stamp : Seq) (listens sends : BitVec 8) : State :=
  if h : st.val < 63 then
    let old := s.roster[st.val]
    let heard := s.setRecord st ⟨true, some stamp, some s.clock.now, hop, listens, sends⟩
    if old.present then
      if old.stamp = some stamp then heard
      else ((heard.stationEvent st .restarted (some stamp)).reportAbsence st).reportReturn st
    else (heard.stationEvent st .present (some stamp)).reportReturn st
  else s

/-- The transmit scheduler's queues are flushed without counting (R140). -/
def Scheduler.flush (q : Scheduler) : Scheduler := { q with notes := [], queues := Vector.replicate 4 [] }

/-- The roster acts on the duplicate condition (R113). -/
def State.duplicate (s : State) (foreign : Seq) : State :=
  match s.mode with
  | .active =>
    { s with mode := .silent, sched := s.sched.flush }.emit (.ring .duplicate s.audio.blockCounter (some foreign))
  | .silent => s
  | .unconfigured => s

/-! ### Meanings -/

/-- The presence timer runs out, every 100 ms from CONFIGURE (R103, R104). -/
def execPresenceTimerExpiry (s : State) : Host.Outcome State Fault Refusal :=
  .next (match s.presenceDue with
    | some due => State.announce { s.reach due with presenceDue := some (due + Config.ms 100) }
    | none => s)

/-- The absence timer of a record runs out, 350 ms after its last heard (R108). -/
def execAbsenceTimerExpiry (st : Station) (s : State) : Host.Outcome State Fault Refusal :=
  .next (
    if h : st.val < 63 then
      let old := s.roster[st.val]
      match old.present, old.lastHeard with
      | true, some t =>
        (((s.reach (t + Config.ms 350)).setRecord st { old with present := false }).stationEvent st .absent
          old.stamp).reportAbsence st
      | _, _ => s
    else s)

/-- The words of a roster record (R114). -/
def State.recordWords (s : State) (r : RosterRecord) : List Word :=
  [flagWord r.present, optWord (r.stamp.map BitVec.toNat), word r.distance.val, word r.listens.toNat, word r.sends.toNat,
    optWord (r.lastHeard.map s.elapsedSat)]

/-- READ-ROSTER (R114, R101). -/
def execReadRoster (args : List Word) (s : State) : Host.Outcome State Fault Refusal :=
  .next (s.command 0x26 0 args fun s =>
    s.done 0x26 ((s.roster.toList.flatMap s.recordWords) ++
      [word s.mode.code, word s.ring.status.code, optWord (s.cfg.number.map Fin.val),
        optWord (s.cfg.startStamp.map BitVec.toNat)]))

end Sys2Proof.Machine
end

