-- ==== Sys2Proof/Machine/Schedule.lean ====
section
/-!
DEFINITION. The transmit scheduler (chapter 9): capture at a block completion, the ages of bursts and of the
last-inserted records, selection for an insertion, and what the end of an insertion records.
-/

namespace Sys2Proof.Machine

/-! ### Ages (R130, R139) -/

/-- A burst's age count after one block completion (R130). -/
def Burst.aged (b : Burst) : Burst := { b with age := min 4 (b.age + 1) }

/-- A message's age after one block completion: a note has none. -/
def Message.aged : Message → Message
  | .note n => .note n
  | .burst b => .burst b.aged

/-- A last-inserted record after one block completion: cleared when its age count is then 4 or more (R139). -/
def LastInserted.aged (r : LastInserted) : Option LastInserted :=
  if 4 ≤ r.age + 1 then none else some { r with age := r.age + 1 }

/-- The queued bursts and the last-inserted records after one block completion (R130, R139). -/
def Scheduler.aged (q : Scheduler) : Scheduler where
  notes := q.notes
  queues := Vector.ofFn fun c => q.queues[c].map Burst.aged
  last := Vector.ofFn fun n => q.last[n].bind LastInserted.aged

/-- One block completion ages the queued bursts, the records and a burst whose insertion is in flight (R139). -/
def State.ageQueues (s : State) : State :=
  { s with
    sched := s.sched.aged
    ring := { s.ring with insertion := s.ring.insertion.map fun i => { i with message := i.message.aged } } }

/-! ### Capture (section 9.2) -/

/-- The block a completion captures of an own source, `seen` telling the ports LIVE at the capture; none for a port that is not (R131, R132). -/
def State.captureBlock (s : State) (seen : PortNo → Bool) (n : SourceNo) : Option Block :=
  if h : n.val < 16 then some s.audio.completed[n.val]
  else
    let k : PortNo := ⟨n.val - 16, by omega⟩
    if seen k then some s.ports[k].completed else none

/-- A captured burst is appended to the queue of its class, the head of a full queue being discarded first (R134). -/
def State.appendBurst (s : State) (b : Burst) : State :=
  let l := s.sched.queues[b.cls]
  if l.length < Config.maxBursts then
    { s with sched := { s.sched with queues := s.sched.queues.set b.cls (l ++ [b]) } }
  else
    ({ s with sched := { s.sched with queues := s.sched.queues.set b.cls (l.drop 1 ++ [b]) } } : State).count
      Counters.incDropOld

/-- A completion captures one own source, if its send entry is SENDING in an ACTIVE station (R131, R133). -/
def State.captureOne (seen : PortNo → Bool) (s : State) (n : SourceNo) : State :=
  match s.mode, s.sendClass n, s.captureBlock seen n with
  | .active, some c, some b => s.appendBurst ⟨n, c, s.audio.blockCounter, b, 0⟩
  | _, _, _ => s

/-- A completion captures the SENDING sources, in increasing source index (R131). -/
def State.captureAll (s : State) (seen : PortNo → Bool) : State :=
  (List.finRange 24).foldl (State.captureOne seen) s

/-! ### Selection (section 9.4) -/

/-- Whether a burst's sequence is later than the last-inserted record of its source, or there is none (R138). -/
def passesStale (r : Option LastInserted) (q : Seq) : Bool :=
  match r with
  | none => true
  | some x => decide (0 < serialDiff q x.seq)

/-- A class queue is tested from its head: the burst given if any, what stays queued, and the counters after the discards (R136 to R138). -/
def takeBurstFrom (last : Vector (Option LastInserted) 24) : List Burst → Counters → Option Burst × List Burst × Counters
  | [], c => (none, [], c)
  | b :: bs, c =>
    if 4 ≤ b.age then takeBurstFrom last bs c.incLateTx
    else if passesStale last[b.source] b.seq then (some b, bs, c)
    else takeBurstFrom last bs c.incStale

/-- The class queues of a list are tried in order for a burst (R136). -/
def State.selectBurst : List Cls → State → Option Message × State
  | [], s => (none, s)
  | c :: cs, s =>
    let r := takeBurstFrom s.sched.last s.sched.queues[c] s.counters
    let left := { s with sched := { s.sched with queues := s.sched.queues.set c r.2.1 }, counters := r.2.2 }
    match r.1 with
    | some b => (some (.burst b), left)
    | none => State.selectBurst cs left

/-- The ring interface asks for a message: the head note at once, else the first burst that passes both tests (R136). -/
def State.select (s : State) : Option Message × State :=
  match s.sched.notes with
  | n :: ns => (some (.note n), { s with sched := { s.sched with notes := ns } })
  | [] => State.selectBurst (List.finRange 4) s

/-! ### The end of an insertion (R139) -/

/-- The scheduler is told which message has left (R139). -/
def State.recordInserted (s : State) (m : Message) : State :=
  match m with
  | .note _ => s
  | .burst b => { s with sched := { s.sched with last := s.sched.last.set b.source (some ⟨b.seq, b.age⟩) } }

end Sys2Proof.Machine
end

