-- ==== Sys2Proof/Machine/RingIn.lean ====
section
/-!
DEFINITION. The ring interface (chapter 6): framing, the classification of headers, cut-through and the insertion
buffer, copies up to their completion, alignment and the ring status, and insertions. While ring-in brings symbols, a
word time is the arrival of one, and each emits one symbol on ring-out; while ring-in has lost alignment, ring-out
goes on by the clock (`State.reach`; log entry 10).
-/

namespace Sys2Proof.Machine

/-- The ring interface is replaced. -/
def State.setRing (s : State) (r : Ring) : State := { s with ring := r }

/-! ### The insertion buffer (R92, R98) -/

/-- Whether the insertion buffer holds 64 words (R98). -/
def Ring.full (r : Ring) : Bool := decide (Config.maxBuffer ≤ r.buffer.length)

/-- A word is appended to the insertion buffer (R92). -/
def Ring.append (r : Ring) (h : Held) : Ring := { r with buffer := r.buffer ++ [h] }

/-- The last held word of a list ends its message. -/
def markEnd : List Held → List Held
  | [] => []
  | [h] => [{ h with ends := true }]
  | h :: hs => h :: markEnd hs

/-- The buffered part of the message in arrival ends as it stands: an idle symbol follows its last word (R95, R98). -/
def Ring.endBuffered (r : Ring) : Ring :=
  if r.buffer.isEmpty then { r with gapOwed := true } else { r with buffer := markEnd r.buffer }

/-! ### Copies (R93, R94) -/

/-- A copy is complete: it is checked, and a good one waits for its owner (R91, R94, R99). -/
def State.completeCopy (s : State) (c : Collect) (ws : List Word) : State :=
  match c with
  | .no => s
  | .undecided => s
  | .copy =>
    if copyGood ws then
      match copyCommand ws with
      | some i => s.setRing { s.ring with handOff := s.ring.handOff ++ [i] }
      | none => s.count Counters.incRingIgnored
    else s.count Counters.incCheck
  | .checkCopy =>
    if copyGood ws then s.setRing { s.ring with handOff := s.ring.handOff ++ [checkCopyCommand ws] }
    else s.count Counters.incCheck

/-- Whether the copy path collects a copy (R91, R93). -/
def Collect.collecting : Collect → Bool
  | .copy => true
  | .checkCopy => true
  | .no => false
  | .undecided => false

/-- What the copy path does from word 1 of a message on: a burst is selected if its source has a listen entry (R93). -/
def State.selectAt (s : State) (m : Arrival) (w : Word) : Collect :=
  match m.collect with
  | .undecided =>
    if h : bits w 27 5 < 24 then
      (if (s.findListen ⟨originOf (copyWord m.words 0), ⟨bits w 27 5, h⟩⟩).isSome then .copy else .no)
    else .no
  | c => c

/-- What the copy path does with a forwarded message at its header (R93). -/
def State.collectAt (s : State) (w : Word) : Collect :=
  if isNote w then
    (if (targetOf w).val = 63 ∨ some (targetOf w) = s.cfg.number then .copy else .no)
  else .undecided

/-! ### Arrival of a data word (R84, R90, R92) -/

/-- The message whose header `w` has arrived. -/
def Arrival.opened (w : Word) (p : Path) (c : Collect) : Framing := .message ⟨lengthOf w - 1, p, c, [w]⟩

/-- A header arrives at an UP ring interface that frames (R84, R90, R98). -/
def State.takeHeader (s : State) (w : Word) : State :=
  if lengthOf w < 3 ∨ 51 < lengthOf w then
    (s.setRing ({ s.ring with framing := .badHeader }.emit .idle)).count Counters.incCheck
  else if some (originOf w) = s.cfg.number then
    let c : Collect := if isNote w ∧ kindOf w = 0 then .checkCopy else .no
    s.setRing ({ s.ring with framing := Arrival.opened w .strip c }.emit .idle)
  else if 62 ≤ (hopOf w).val then
    s.setRing ({ s.ring with framing := Arrival.opened w .strip .no }.emit .idle)
  else
    let c := s.collectAt w
    let w' := withHop w ((hopOf w).val + 1)
    if s.ring.holding then
      if s.ring.full then
        (s.setRing ({ s.ring with framing := Arrival.opened w .cutOff c }.emit .idle)).count Counters.incPartial
      else s.setRing (({ s.ring with framing := Arrival.opened w .buffered c }.append ⟨w', false⟩).emit .idle)
    else s.setRing ({ s.ring with framing := Arrival.opened w .cutThrough c }.emit (.data w'))

/-- Where a later word of a message goes on the forwarding path, `last` telling its last word (R90, R92, R98). -/
def State.forwardWord (s : State) (p : Path) (w : Word) (last : Bool) : State × Path :=
  match p with
  | .strip => (s.setRing (s.ring.emit .idle), .strip)
  | .cutOff => (s.setRing (s.ring.emit .idle), .cutOff)
  | .cutThrough => (s.setRing (s.ring.emit (.data w)), .cutThrough)
  | .buffered =>
    if s.ring.full then ((s.setRing (s.ring.endBuffered.emit .idle)).count Counters.incPartial, .cutOff)
    else (s.setRing ((s.ring.append ⟨w, last⟩).emit .idle), .buffered)

/-- A data word of a message in arrival (R84, R92 to R94). -/
def State.takeBody (s : State) (m : Arrival) (w : Word) : State :=
  let c := s.selectAt m w
  let last := decide (m.left ≤ 1)
  let f := s.forwardWord m.path w last
  let ws := m.words ++ [w]
  if last then (f.1.setRing { f.1.ring with framing := .between }).completeCopy c ws
  else f.1.setRing { f.1.ring with framing := .message ⟨m.left - 1, f.2, c, ws⟩ }

/-- A data word arrives on ring-in (R84, R86, R87); DESIGN CHOICE (log entry 4): given while alignment is lost, it changes nothing. -/
def State.dataWord (s : State) (w : Word) : State :=
  if !s.ring.aligned then s
  else if !s.configured then s.setRing { s.ring with out := .data w }
  else match s.ring.status with
    | .down => s.setRing (s.ring.emit .idle)
    | .up =>
      match s.ring.framing with
      | .hunting => s.setRing (s.ring.emit .idle)
      | .badHeader => s.setRing (s.ring.emit .idle)
      | .between => s.takeHeader w
      | .message m => s.takeBody m w

/-! ### Idle symbols and cuts (R85, R92, R95) -/

/-- The message in arrival, if any, is cut short: its copy is counted and its buffered part ends (R95). -/
def State.cutMessage (s : State) : State :=
  match s.ring.framing with
  | .message m =>
    let counted := if m.collect.collecting then s.count Counters.incPartial else s
    match m.path with
    | .buffered => counted.setRing counted.ring.endBuffered
    | .strip => counted
    | .cutThrough => counted
    | .cutOff => counted
  | .hunting => s
  | .between => s
  | .badHeader => s

/-- An idle symbol arrives on ring-in (R84, R86, R87, R92, R95); DESIGN CHOICE (log entry 4): given while alignment is lost, it changes nothing. -/
def State.idleSymbol (s : State) : State :=
  if !s.ring.aligned then s
  else if !s.configured then s.setRing { s.ring with out := .idle }
  else match s.ring.status with
    | .down => s.setRing (s.ring.emit .idle)
    | .up =>
      let cut := s.cutMessage
      cut.setRing ({ cut.ring with framing := .between }.emit .idle)

/-- Ring-in loses word alignment (R85, R87, R95). -/
def State.loseAlignment (s : State) : State :=
  if s.ring.aligned then
    let lost := s.setRing { s.ring with aligned := false, alignedAt := s.clock.now }
    if !s.configured then lost.setRing { lost.ring with out := .lost }
    else
      let cut := lost.cutMessage
      if s.ring.holding then cut.setRing { cut.ring with framing := .hunting }
      else cut.setRing { cut.ring with framing := .hunting, gapOwed := false, out := .idle }
  else s

/-- Whether a message is in arrival. -/
def Framing.inMessage : Framing → Bool
  | .message _ => true
  | .hunting => false
  | .between => false
  | .badHeader => false

/-! ### Insertions (R96 to R98) -/

/-- Whether an insertion may begin (R96): ring-out is between messages while it carries an idle symbol. -/
def State.mayInsert (s : State) : Bool :=
  s.mode == .active && s.ring.status == .up && !s.ring.holding && s.ring.out == .idle

/-- Whether a message of which words may still be appended is in arrival. -/
def Framing.buffering : Framing → Bool
  | .message m => m.path == .buffered
  | .hunting => false
  | .between => false
  | .badHeader => false

/-! ### Meanings -/

/-- Ring-in loses word alignment (R85). -/
def execAlignmentLoss (s : State) : Host.Outcome State Fault Refusal := .next s.loseAlignment

/-- Ring-in regains word alignment; the 1 ms toward UP starts again (R85, R86). -/
def execAlignmentRegained (s : State) : Host.Outcome State Fault Refusal :=
  .next (if s.ring.aligned then s
    else s.setRing { s.ring with aligned := true, alignedAt := s.clock.now, framing := .hunting })

/-- Alignment has been lost for 10 µs: the ring status goes DOWN, and what the buffer has not let out by then is discarded (R86). -/
def execRingDown (s : State) : Host.Outcome State Fault Refusal :=
  .next (if !s.ring.aligned ∧ s.ring.status = .up then
      let reached := s.reach (s.ring.alignedAt + Config.downCounts)
      let r := reached.ring
      let out : Symbol := if s.configured ∧ r.insertion.isNone then .idle else r.out
      (reached.setRing
        { r with status := .down, framing := .hunting, buffer := [], gapOwed := false, out := out }).emit
        (.ring .down s.audio.blockCounter none)
    else s)

/-- Alignment has been held for 1 ms: the ring status goes UP (R86). -/
def execRingUp (s : State) : Host.Outcome State Fault Refusal :=
  .next (if s.ring.aligned ∧ s.ring.status = .down then
      let reached := s.reach (s.ring.alignedAt + Config.ms 1)
      (reached.setRing { reached.ring with status := .up, framing := .hunting }).emit
        (.ring .up s.audio.blockCounter none)
    else s)

/-- A data word arrives on ring-in between messages: a header (R84, R90). -/
def execMessageHeader (w : Word) (s : State) : Host.Outcome State Fault Refusal := .next (s.dataWord w)

/-- A data word arrives on ring-in after a header (R92, R93). -/
def execMessageWordArrival (w : Word) (s : State) : Host.Outcome State Fault Refusal := .next (s.dataWord w)

/-- An idle symbol arrives on ring-in (R84, R92). -/
def execRingInIdleSymbol (s : State) : Host.Outcome State Fault Refusal := .next s.idleSymbol

/-- The message in arrival is cut short, by an idle symbol or by a loss of alignment (R95). -/
def execMessageCutShort (byIdle : Bool) (s : State) : Host.Outcome State Fault Refusal :=
  .next (if s.ring.framing.inMessage then (if byIdle then s.idleSymbol else s.loseAlignment) else s)

/-- The ring interface asks for a message and, given one, begins its insertion (R96, R97). -/
def execInsertionStart (s : State) : Host.Outcome State Fault Refusal :=
  .next (if s.mayInsert then
      match s.select with
      | (none, left) => left
      | (some m, left) =>
        let symbols := (m.words s.ownStation).map Symbol.data ++ [.idle, .idle]
        left.setRing { left.ring with insertion := some ⟨m, symbols⟩ }
    else s)

/-- The inserted message and its two trailing idle symbols leave, those of its symbols that had not left yet first, one a word time (R97, R139; log entry 10). -/
def execInsertionEnd (s : State) : Host.Outcome State Fault Refusal :=
  .next (match s.ring.insertion with
    | none => s
    | some i => (s.setRing { s.ring with insertion := none, out := .idle, swept := i.left }).recordInserted i.message)

/-- The symbols ring-out still has to let out of the insertion buffer: the idle symbol owed, then each word, an idle symbol after each message (R98). -/
def Ring.buffered (r : Ring) : List Symbol :=
  (if r.gapOwed then [.idle] else []) ++
    r.buffer.flatMap fun h => if h.ends then [.data h.word, .idle] else [.data h.word]

/-- The last buffered word and its idle symbol leave, what is before it first, one symbol a word time, and forwarding returns to cut-through (R98; log entry 10). -/
def execInsertionBufferEmpty (s : State) : Host.Outcome State Fault Refusal :=
  .next (if s.ring.insertion.isNone ∧ s.ring.holding ∧ ¬ s.ring.framing.buffering then
      s.setRing { s.ring with buffer := [], gapOwed := false, out := .idle, swept := s.ring.buffered }
    else s)

end Sys2Proof.Machine
end

