-- ==== Sys2Proof/Machine/Copies.lean ====
section
/-!
DEFINITION. The note dispatcher and the hand-off of completed copies (R94, R99, R100): a copy as a command, whether it
was collected from ring-in word by word or is given whole (log entry 9), and what its owner does with it.
-/

namespace Sys2Proof.Machine

/-! ### Whether a copy is taken -/

/-- Whether the ring interface takes copies at all (R93, R100). -/
def State.takesCopies (s : State) : Bool := s.configured && s.ring.status == .up

/-- Whether a copy of a message with this origin is one of a forwarded message (R90). -/
def State.forwards (s : State) (origin : Station) : Bool := some origin != s.cfg.number

/-- Whether a note with this origin and target is selected for a copy (R90, R93). -/
def State.selects (s : State) (origin target : Station) : Bool :=
  s.forwards origin && (target.val == 63 || some target == s.cfg.number)

/--
A completed copy `c` reaches its hand-off. A copy that failed its check is discarded and counted in CHECK (R94). A
good one is handed on whole, in the order of completion: the oldest copy waiting from ring-in goes first, and a copy
given whole is handed on while none waits (R100; log entry 9).
-/
def State.handOn (s : State) (c : Instr) (good : Bool) (owner : State → State) : State :=
  if good then
    match s.ring.handOff with
    | [] => owner s
    | h :: hs => if h = c then owner (s.setRing { s.ring with handOff := hs }) else s
  else s.count Counters.incCheck

/-- A good note copy whose kind does not suit target 63 is ignored; any other reaches its owner (R99). -/
def State.dispatchOwn (s : State) (target : Station) (owner : State → State) : State :=
  if target.val = 63 then s.count Counters.incRingIgnored else owner s

/-- What a received TALK asks of the arbiter (R50). -/
def talkRequest (origin : Station) (n : TalkNo) (src : SourceAddr) (c : Cls) (intr : Bool) : TalkRequest where
  talker := origin
  number := n
  source := src
  cls := c
  intr := intr

/-- The talker takes a TALK-STATE with the codes as received; a code that names no state or no reason is counted as ignored (R77). -/
def State.takeTalkState (s : State) (origin : Station) (n : TalkNo) (m : Fin 32) (state : Fin 8) (reason : Fin 16) : State :=
  match TalkAnswer.ofCode state, Reason.ofCode reason with
  | some a, some r => s.takeReply n ⟨origin, m, a, r⟩
  | _, _ => s.count Counters.incTalkerIgnored

/-! ### Meanings -/

/-- A completed BURST copy (R94, R148, R149). -/
def execBurst (good : Bool) (origin : Station) (index : Fin 32) (cls : Cls) (seq : Seq) (samples : Block) (s : State) :
    Host.Outcome State Fault Refusal :=
  .next (if s.takesCopies && s.forwards origin then
      s.handOn (.burst good origin index cls seq samples) good fun s => s.takeBurst origin index seq samples
    else s)

/-- A completed PRESENCE copy; a message of hop count 62 or above is stripped, not copied (R90, R99, R106, R107). -/
def execPresence (good : Bool) (origin target : Station) (hop : Fin 64) (stamp : Seq) (listens sends : BitVec 8) (s : State) :
    Host.Outcome State Fault Refusal :=
  .next (if s.takesCopies && s.selects origin target && decide (hop.val < 62) then
      s.handOn (.presence good origin target hop stamp listens sends) good fun s =>
        s.takePresence origin hop stamp listens sends
    else s)

/-- A completed check copy of a stripped PRESENCE of the own number (R91, R113). -/
def execPresenceCheckCopy (good : Bool) (stamp : Seq) (s : State) : Host.Outcome State Fault Refusal :=
  .next (if s.takesCopies then
      s.handOn (.presenceCheckCopy good stamp) good fun s =>
        if some stamp = s.cfg.startStamp then s else s.duplicate stamp
    else s)

/-- A completed JOIN copy (R99, R117). -/
def execJoin (good : Bool) (origin target : Station) (index : Fin 32) (cls : Cls) (s : State) :
    Host.Outcome State Fault Refusal :=
  .next (if s.takesCopies && s.selects origin target then
      s.handOn (.join good origin target index cls) good fun s =>
        s.dispatchOwn target fun s => s.takeJoin origin index cls
    else s)

/-- A completed LEAVE copy (R99, R118). -/
def execLeave (good : Bool) (origin target : Station) (index : Fin 32) (s : State) : Host.Outcome State Fault Refusal :=
  .next (if s.takesCopies && s.selects origin target then
      s.handOn (.leave good origin target index) good fun s =>
        s.dispatchOwn target fun s => s.takeLeave origin index
    else s)

/-- A completed TALK copy (R99, R50). -/
def execTalk (good : Bool) (origin target : Station) (n : TalkNo) (src : SourceAddr) (cls : Cls) (intr : Bool)
    (kind : TargetKind) (value : Fin 32) (s : State) : Host.Outcome State Fault Refusal :=
  .next (if s.takesCopies && s.selects origin target then
      s.handOn (.talk good origin target n src cls intr kind value) good fun s =>
        s.takeTalk (target.val == 63) (talkRequest origin n src cls intr) kind value
    else s)

/-- A completed TALK-END copy (R99, R59). -/
def execTalkEnd (good : Bool) (origin target : Station) (n : TalkNo) (s : State) : Host.Outcome State Fault Refusal :=
  .next (if s.takesCopies && s.selects origin target then
      s.handOn (.talkEnd good origin target n) good fun s => s.takeTalkEnd origin n
    else s)

/-- A completed TALK-STATE copy (R99, R77). -/
def execTalkState (good : Bool) (origin target : Station) (n : TalkNo) (m : Fin 32) (state : Fin 8) (reason : Fin 16)
    (s : State) : Host.Outcome State Fault Refusal :=
  .next (if s.takesCopies && s.selects origin target then
      s.handOn (.talkState good origin target n m state reason) good fun s =>
        s.dispatchOwn target fun s => s.takeTalkState origin n m state reason
    else s)

end Sys2Proof.Machine
end

