-- ==== Sys2Proof/Machine/Mixing.lean ====
section
/-!
DEFINITION. The mix engine and the local audio ports (chapters 2 and 3): LOCAL_SAMPLE with the block completion, the
start of a pass with the dim update, MIX_PASS_END with delivery and the protect loop, and READ-FEED.
-/

namespace Sys2Proof.Machine

/-! ### The start of a pass (R21) -/

/-- The dim target of a mix (R36). -/
def State.dimTarget (s : State) (m : Mix) : Nat :=
  if s.talks[m].granted.any InTalk.intr then s.cfg.mixes[m].dimDepth else 32768

/-- A mix after its dim update (R37). -/
def State.dimmed (s : State) (m : Mix) : MixState :=
  { s.mixes[m] with dimGain := dimStep s.mixes[m].dimGain (s.dimTarget m) s.cfg.mixes[m].dimRamp }

/-- Whether a pass or a capture of this completion takes port k as LIVE; at the completion that makes it LIVE, the free value says (R23, R131, R168; log entry 8). -/
def State.portSeen (s : State) (k : PortNo) : Bool :=
  if s.ports[k].goesLive then Config.liveSeen s.choices k else s.ports[k].state == .live

/-- The block a pass takes for an input (R22 to R24). -/
def State.inputBlock (s : State) (seen : PortNo → Bool) : Input → Block
  | .loc n => s.audio.completed[n]
  | .field k => if seen k then s.ports[k].completed else Block.silence
  | .remote r => s.playedBlock r

/-- The base term of a mix, weighted by its effective base level (R25, R38). -/
def State.baseTerm (s : State) (m : Mix) : List Term :=
  match s.cfg.mixes[m].base with
  | none => []
  | some n => [⟨s.audio.completed[n], effectiveBase s.cfg.mixes[m].baseLevel (s.dimmed m).dimGain⟩]

/-- What a pass takes for one mix (R21, R25). -/
def State.passMix (s : State) (seen : PortNo → Bool) (m : Mix) : PassMix where
  terms := s.baseTerm m ++ s.routes[m].map fun r => ⟨s.inputBlock seen r.input, r.effective⟩
  headroom := s.cfg.mixes[m].headroom
  trim := s.mixes[m].trim
  lo := s.cfg.mixes[m].lo
  hi := s.cfg.mixes[m].hi

/-- A pass starts: it takes its values, the dim gains are updated and every listen entry plays one block (R21, R24, R37). -/
def State.startPass (s : State) (seen : PortNo → Bool) : State :=
  let pass : Pass := ⟨s.audio.blockCounter, Vector.ofFn (s.passMix seen)⟩
  { s.playAll with
    mixes := Vector.ofFn s.dimmed
    audio := { s.audio with pass := some pass } }

/-! ### The end of a pass (R31, R40 to R45) -/

/-- A mix after the protect loop with the pass's three counts and its protect threshold `p`, and the direction its trim step moved (R40 to R44). -/
def MixState.protect (st : MixState) (p high low wrong : Nat) : MixState × Option Direction :=
  let c := high + low + wrong
  let st := { st with high := high, low := low, wrong := wrong, clipped := decide (0 < c) }
  if 0 < p ∧ p ≤ c then
    if st.trim < 7 then ({ st with trim := st.trim + 1, cleanRun := 0 }, some .up)
    else ({ st with cleanRun := 0 }, none)
  else if c = 0 then
    if st.cleanRun + 1 < 250 then ({ st with cleanRun := st.cleanRun + 1 }, none)
    else if 0 < st.trim then ({ st with trim := st.trim - 1, cleanRun := 0 }, some .down)
    else ({ st with cleanRun := 0 }, none)
  else ({ st with cleanRun := 0 }, none)

/-- The clip count of a mix in a pass (R30). -/
def PassMix.clips (p : PassMix) : Nat := clipCount p .high + clipCount p .low + clipCount p .wrong

/-- The protect loop of one mix with the counts of a pass (R42 to R45). -/
def State.protectMix (pass : Pass) (s : State) (m : Mix) : State :=
  let p := pass.mixes[m]
  let r := s.mixes[m].protect s.cfg.mixes[m].protect (clipCount p .high) (clipCount p .low) (clipCount p .wrong)
  let placed := { s with mixes := s.mixes.set m r.1 }
  match r.2 with
  | none => placed
  | some d => placed.emit (.protect m d r.1.trim p.clips pass.number)

/-- The K blocks of a pass reach their output lines (R31). -/
def State.deliverLines (s : State) (pass : Pass) : State :=
  { s with audio := { s.audio with delivered := Vector.ofFn fun n : Fin 16 => some (mixBlock pass.mixes[n.val]) } }

/-- The T blocks of a pass reach their field ports (R31, R182). -/
def State.deliverReturns (s : State) (pass : Pass) : State :=
  (List.finRange 8).foldl (fun s k => s.deliverReturn k (mixBlock pass.mixes[returnMix k])) s

/-- The pass in flight ends: delivery, then the protect loop of each mix in turn (R31, R40). -/
def State.endPass (s : State) : State :=
  match s.audio.pass with
  | none => s
  | some pass =>
    let delivered := (s.deliverLines pass).deliverReturns pass
    let counted := (List.finRange 24).foldl (State.protectMix pass) delivered
    { counted with audio := { counted.audio with pass := none } }

/-! ### The block completion (R18 to R20) -/

/-- The block of one line from 48 sample periods (R18). -/
def lineBlock (periods : List (Vector Sample 16)) (n : Fin 16) : Block :=
  Vector.ofFn fun j => (periods.getD j.val (Vector.replicate 16 0))[n]

/-- The local audio ports complete a block: counter, blocks, and what the output lines play from now on (R18, R19). -/
def Audio.complete (a : Audio) (periods : List (Vector Sample 16)) : Audio :=
  { a with
    blockCounter := a.blockCounter + 1
    current := []
    completed := Vector.ofFn (lineBlock periods)
    playing := a.delivered
    completedAt := a.sampleAt }

/-- A mix pass starts in a configured station (R20, R34). -/
def State.passOf (s : State) (seen : PortNo → Bool) : State :=
  if s.configured then s.startPass seen else s

/--
Everything that acts on a block completion: lines, pass, ageing, capture and field ports (R18 to R20, R131, R139, R176).
DESIGN CHOICE (log entry 31): the ports that become LIVE at one completion queue their FIELD events in increasing port
number; R191 lets events of several owners at one moment come in either order.
-/
def State.blockCompletion (s : State) (periods : List (Vector Sample 16)) : State :=
  let seen := s.portSeen
  let completed := { s with audio := s.audio.complete periods, choices := s.choices + 1 }
  let captured := ((completed.endPass.passOf seen).ageQueues).captureAll seen
  (List.finRange 8).foldl State.portCompletion captured

/-! ### Meanings -/

/-- One sample period's samples arrive; the 48th completes the block (R18). -/
def execLocalSample (samples : Vector Sample 16) (s : State) : Host.Outcome State Fault Refusal :=
  .next (
    let t := s.audio.sampleAt + Config.countsPerSample
    let reached := s.reach t
    let periods := s.audio.current ++ [samples]
    let filled := { reached with audio := { s.audio with current := periods, sampleAt := t } }
    if 48 ≤ periods.length then filled.blockCompletion periods else filled)

/-- The pass in flight ends (R31). -/
def execMixPassEnd (s : State) : Host.Outcome State Fault Refusal := .next s.endPass

/-- READ-FEED (R46). -/
def execReadFeed (args : List Word) (s : State) : Host.Outcome State Fault Refusal :=
  .next (s.read 0x22 24 args fun m =>
    let st := s.mixes[m]
    [word st.dimGain, word st.trim, word st.cleanRun, word st.high, word st.low, word st.wrong, flagWord st.clipped])

end Sys2Proof.Machine
end

