-- ==== Sys2Proof/Machine/Control.lean ====
section
/-!
DEFINITION. What the control port does for itself (chapter 13): CONFIGURE, READ-COUNTERS, NEXT-EVENT, the release of
the select line, and the device reset.
-/

namespace Sys2Proof.Machine

/-! ### CONFIGURE (R188, R189) -/

/-- The control code of CONFIGURE. -/
def codeConfigure : BitVec 8 := 0x01

/-- Steps 1 and 2 of R189: the configured values are taken, with the start stamp, and the presence timer starts (R103). -/
def State.takeConfig (s : State) (c : Configuration) : State :=
  { s with
    cfg :=
      { number := some c.number
        startStamp := some s.clock.startCounter
        jitterTarget := c.jitterTarget
        fixedClass := c.fixedClass
        talkLevels := c.talkLevels
        mixes := c.mixes }
    presenceDue := some (s.clock.now + Config.ms 100) }

/-- Step 3 of R189: the station is ACTIVE and the bypass opens; ring-out carries an idle symbol from then on (R88; log entry 12). -/
def State.openBypass (s : State) : State :=
  { s with mode := .active, ring := { s.ring with framing := .hunting, out := .idle } }

/-- Step 4 of R189 for one port: an enabled port goes to IDLE with its FIELD event; any port takes its access code and talk target (R161, R188). -/
def State.configurePort (c : Configuration) (s : State) (k : PortNo) : State :=
  let p := { s.ports[k] with
    enabled := c.ports[k].enabled, access := c.ports[k].access, target := some c.ports[k].target }
  if c.ports[k].enabled then s.movePort k { p with state := .idle } .none else s.setPort k p

/-- CONFIGURE is carried out (R189). -/
def State.configure (s : State) (c : Configuration) : State :=
  State.announce ((List.finRange 8).foldl (State.configurePort c) (s.takeConfig c).openBypass)

/-- CONFIGURE (R188, R189). -/
def execConfigure (args : List Word) (s : State) : Host.Outcome State Fault Refusal :=
  .next (s.command codeConfigure 295 args fun s =>
    if s.configured then s.refuse codeConfigure .already
    else match argConfiguration args with
      | none => s.badArg codeConfigure
      | some c => (s.configure c).done codeConfigure [word c.number.val, word s.clock.startCounter.toNat])

/-! ### Counters and events (R192, R193) -/

/-- The sixteen counters in R193's order. -/
def Counters.words (c : Counters) : List Word :=
  [word c.check, word c.partialCopies, word c.ringIgnored, word c.dropOld, word c.lateTx, word c.stale, word c.noteDrop,
    word c.lateRx, word c.dup, word c.resync, word c.conceal, word c.overrun, word c.underrun, word c.arbiterIgnored,
    word c.sendIgnored, word c.talkerIgnored]

/-- READ-COUNTERS returns the sixteen counters and clears them (R193). -/
def execReadCounters (args : List Word) (s : State) : Host.Outcome State Fault Refusal :=
  .next (s.command 0x27 0 args fun s => { s.done 0x27 s.counters.words with counters := Counters.zero })

/-- NEXT-EVENT removes and returns the oldest event, or none, with the lost count, which is then 0 (R192). -/
def execNextEvent (args : List Word) (s : State) : Host.Outcome State Fault Refusal :=
  .next (s.command 0x28 0 args fun s =>
    match s.events.queue with
    | [] => { s.done 0x28 [noneWord, word s.events.lost] with events := ⟨[], 0⟩ }
    | e :: es => { s.done 0x28 (e.words ++ [word s.events.lost]) with events := ⟨es, 0⟩ })

/-! ### The end of a frame (R185, R186) -/

/-- The command codes of the table of command codes ("Control frames"). -/
def commandCodes : List Nat :=
  [0x01, 0x02, 0x03, 0x04, 0x05, 0x20, 0x21, 0x22, 0x23, 0x24, 0x25, 0x26, 0x27, 0x28, 0x29]

/--
The select line is released with `received` the words of the frame. An incomplete frame, and one whose first word is
0, only sent the held response; a complete one was taken as its own command, but for a code outside the table, which is
answered BAD_ARG. No word at all is the release that ends the frame of a command taken, or, where none is in progress,
a frame that carried nothing (R185, R186 check 1; log entry 18). Bits 11 to 0 of the header are not read: DESIGN CHOICE
(log entry 33).
-/
def execFrameAbort (received : List Word) (s : State) : Host.Outcome State Fault Refusal :=
  .next (match received with
    | [] => if s.selected then { s with selected := false } else s.readFrame
    | h :: args =>
      if h = 0 ∨ args.length < bits h 12 12 then s.readFrame
      else if commandCodes.contains (bits h 24 8) then { s with selected := false }
      else { s.badArg (BitVec.ofNat 8 (bits h 24 8)) with selected := false })

/-! ### Device reset -/

/-- The device reset input (R102, and the reset rule of every chapter): what keeps its value is the clock, the alignment of ring-in, the commands that wait and the free value's counter. -/
def execDeviceReset (s : State) : Host.Outcome State Fault Refusal :=
  .next (State.resetFrom s.pending s.clock s.ring.aligned s.choices)

end Sys2Proof.Machine
end

