-- ==== Sys2Proof/Machine/Dispatch.lean ====
section
/-! DEFINITION. One arm for each command: a direct call of its meaning. -/

namespace Sys2Proof.Machine

/-- What a command does to everything but the queue of waiting commands. -/
def exec (i : Instr) (s : State) : Host.Outcome State Fault Refusal :=
  match i with
  | .deviceReset => Sys2Proof.Machine.execDeviceReset s
  | .configure args => Sys2Proof.Machine.execConfigure args s
  | .keyDown args => Sys2Proof.Machine.execKeyDown args s
  | .keyUp args => Sys2Proof.Machine.execKeyUp args s
  | .setRoute args => Sys2Proof.Machine.execSetRoute args s
  | .fieldReset args => Sys2Proof.Machine.execFieldReset args s
  | .readRoutes args => Sys2Proof.Machine.execReadRoutes args s
  | .readOutTalk args => Sys2Proof.Machine.execReadOutTalk args s
  | .readInTalks args => Sys2Proof.Machine.execReadInTalks args s
  | .readFeed args => Sys2Proof.Machine.execReadFeed args s
  | .readField args => Sys2Proof.Machine.execReadField args s
  | .readListen args => Sys2Proof.Machine.execReadListen args s
  | .readSend args => Sys2Proof.Machine.execReadSend args s
  | .readRoster args => Sys2Proof.Machine.execReadRoster args s
  | .readCounters args => Sys2Proof.Machine.execReadCounters args s
  | .nextEvent args => Sys2Proof.Machine.execNextEvent args s
  | .frameAbort received => Sys2Proof.Machine.execFrameAbort received s
  | .localSample samples => Sys2Proof.Machine.execLocalSample samples s
  | .mixPassEnd => Sys2Proof.Machine.execMixPassEnd s
  | .inboundSampleMoment port => Sys2Proof.Machine.execInboundSampleMoment port s
  | .outboundWordRequest port => Sys2Proof.Machine.execOutboundWordRequest port s
  | .trainWord port => Sys2Proof.Machine.execTrainWord port s
  | .codeWord port payload => Sys2Proof.Machine.execCodeWord port payload s
  | .sampleWord port payload => Sys2Proof.Machine.execSampleWord port payload s
  | .talkOnWord port => Sys2Proof.Machine.execTalkOnWord port s
  | .talkOffWord port => Sys2Proof.Machine.execTalkOffWord port s
  | .endWord port => Sys2Proof.Machine.execEndWord port s
  | .idleWord port marker => Sys2Proof.Machine.execIdleWord port marker s
  | .gapTimerExpiry port => Sys2Proof.Machine.execGapTimerExpiry port s
  | .codeTimerExpiry port => Sys2Proof.Machine.execCodeTimerExpiry port s
  | .linkSilenceExpiry port => Sys2Proof.Machine.execLinkSilenceExpiry port s
  | .holdoffExpiry port => Sys2Proof.Machine.execHoldoffExpiry port s
  | .alignmentLoss => Sys2Proof.Machine.execAlignmentLoss s
  | .alignmentRegained => Sys2Proof.Machine.execAlignmentRegained s
  | .ringDown => Sys2Proof.Machine.execRingDown s
  | .ringUp => Sys2Proof.Machine.execRingUp s
  | .messageHeader word => Sys2Proof.Machine.execMessageHeader word s
  | .messageCutShort byIdle => Sys2Proof.Machine.execMessageCutShort byIdle s
  | .burst good origin idx cls seq samples => Sys2Proof.Machine.execBurst good origin idx cls seq samples s
  | .presence good origin target hop stamp listens sends => Sys2Proof.Machine.execPresence good origin target hop stamp listens sends s
  | .presenceCheckCopy good stamp => Sys2Proof.Machine.execPresenceCheckCopy good stamp s
  | .join good origin target idx cls => Sys2Proof.Machine.execJoin good origin target idx cls s
  | .leave good origin target idx => Sys2Proof.Machine.execLeave good origin target idx s
  | .talk good origin target number source cls intr kind value => Sys2Proof.Machine.execTalk good origin target number source cls intr kind value s
  | .talkEnd good origin target number => Sys2Proof.Machine.execTalkEnd good origin target number s
  | .talkState good origin target number mix sta reason => Sys2Proof.Machine.execTalkState good origin target number mix sta reason s
  | .lapseTimerExpiry talker number mix => Sys2Proof.Machine.execLapseTimerExpiry talker number mix s
  | .refreshTimerExpiry number => Sys2Proof.Machine.execRefreshTimerExpiry number s
  | .unansweredTimerExpiry number => Sys2Proof.Machine.execUnansweredTimerExpiry number s
  | .presenceTimerExpiry => Sys2Proof.Machine.execPresenceTimerExpiry s
  | .absenceTimerExpiry station => Sys2Proof.Machine.execAbsenceTimerExpiry station s
  | .subscriberExpiry source station => Sys2Proof.Machine.execSubscriberExpiry source station s
  | .joinRefreshExpiry entry => Sys2Proof.Machine.execJoinRefreshExpiry entry s
  | .insertionStart => Sys2Proof.Machine.execInsertionStart s
  | .insertionEnd => Sys2Proof.Machine.execInsertionEnd s
  | .insertionBufferEmpty => Sys2Proof.Machine.execInsertionBufferEmpty s
  | .ringInIdleSymbol => Sys2Proof.Machine.execRingInIdleSymbol s
  | .messageWordArrival word => Sys2Proof.Machine.execMessageWordArrival word s

end Sys2Proof.Machine
end

