-- ==== Sys2Proof/Machine/Step.lean ====
section
/-! DEFINITION. One step: the command at the front of the queue, or one reference count on an empty queue. -/

namespace Sys2Proof.Machine

/--
The command at the front of the queue is taken with the queue's rest; on an empty queue one count of the 24.576 MHz
reference passes. DESIGN CHOICE (log entries 1 and 2).
-/
def step (s : State) : Host.Outcome State Fault Refusal :=
  match s.pending with
  | [] => .next (s.reach (s.clock.now + 1))
  | c :: rest => exec c { s with pending := rest }

/-- `s` with the command that the word spells put at the front of its queue; `s` itself where the word spells none. -/
def State.withFetchWord (s : State) (nbits w : Nat) : State :=
  match Sys2Proof.decodeTableWord nbits w with
  | some c => { s with pending := c :: s.pending }
  | none => s

end Sys2Proof.Machine
end

