-- ==== Sys2Proof/Safety.lean ====
section
/-!
DEFINITION. What a safe run keeps: the capacities of the queues and buffers, the ranges of the per-mix state, the
conditions the manual says hold after every step, and the emptiness of a station that has not been configured.
-/

namespace Sys2Proof.Machine

/-- The event queue holds at most 64 events and its lost count has not passed 65535 (R191). -/
def State.EventsBounded (s : State) : Prop := s.events.queue.length ≤ 64 ∧ s.events.lost ≤ 65535

/-- The note queue holds at most 16 notes and each class queue at most 16 bursts (R130). -/
def State.QueuesBounded (s : State) : Prop :=
  s.sched.notes.length ≤ 16 ∧ ∀ c : Cls, s.sched.queues[c].length ≤ 16

/-- A station that is not ACTIVE has nothing queued for the ring (R140, R142). -/
def State.QuietUnlessActive (s : State) : Prop :=
  s.mode ≠ .active → s.sched.notes = [] ∧ ∀ c : Cls, s.sched.queues[c] = []

/-- The insertion buffer holds at most 64 words (R98). -/
def State.BufferBounded (s : State) : Prop := s.ring.buffer.length ≤ 64

/-- No mix has more than two GRANTED incoming talk records, and a mix whose wait list is not empty has two (R49). -/
def State.SlotsFilled (s : State) : Prop :=
  ∀ m : Mix, s.talks[m].granted.length ≤ 2 ∧ (s.talks[m].waiting ≠ [] → s.talks[m].granted.length = 2)

/-- Mix-minus: no route entry of mix T k has input F k (R3). -/
def State.MixMinus (s : State) : Prop := ∀ k : PortNo, hasRoute s.routes[returnMix k] (.field k) = false

/-- A mix holds at most 12 route entries (section 1.3). -/
def State.RoutesBounded (s : State) : Prop := ∀ m : Mix, s.routes[m].length ≤ 12

/-- The route table holds at most 192 entries (section 1.3). -/
def State.RoutesWithin (s : State) : Prop := ((List.finRange 24).map fun m => s.routes[m].length).sum ≤ 192

/-- The incoming talk table holds at most 48 records (R48). -/
def State.TalksWithin (s : State) : Prop :=
  ((List.finRange 24).map fun m => s.talks[m].granted.length + s.talks[m].waiting.length).sum ≤ 48

/-- An outgoing talk record holds at most 8 reply entries (R69). -/
def State.RepliesWithin (s : State) : Prop := ∀ n : TalkNo, ∀ t ∈ s.outTalks[n], t.replies.length ≤ 8

/-- Dim gains stay within 0 to 32768, trim steps within 0 to 7 and clean runs within 0 to 249, under dim depths of at most 32768 (R37, R42, R43). -/
def State.GainsBounded (s : State) : Prop :=
  ∀ m : Mix, s.mixes[m].dimGain ≤ 32768 ∧ s.mixes[m].trim ≤ 7 ∧ s.mixes[m].cleanRun ≤ 249 ∧
    s.cfg.mixes[m].dimDepth ≤ 32768

/-- An elastic buffer holds at most 256 samples and an outbound buffer at most 96 (R174). -/
def State.PortBuffersBounded (s : State) : Prop :=
  ∀ k : PortNo, s.ports[k].elastic.length ≤ 256 ∧ s.ports[k].outbound.length ≤ 96

/-- The sixteen counters stay within 16 bits (R193). -/
def State.CountersBounded (s : State) : Prop := ∀ w ∈
    [s.counters.check, s.counters.partialCopies, s.counters.ringIgnored, s.counters.dropOld, s.counters.lateTx,
      s.counters.stale, s.counters.noteDrop, s.counters.lateRx, s.counters.dup, s.counters.resync, s.counters.conceal,
      s.counters.overrun, s.counters.underrun, s.counters.arbiterIgnored, s.counters.sendIgnored,
      s.counters.talkerIgnored], w ≤ 65535

/-- An UNCONFIGURED station holds nothing: no route, talk, subscriber-fed queue, listen entry, copy or insertion, and every port is DISABLED (R34, R83, R87, R142). -/
def State.EmptyWhileUnconfigured (s : State) : Prop :=
  s.mode = .unconfigured →
    (∀ m : Mix, s.routes[m] = [] ∧ s.talks[m].granted = [] ∧ s.talks[m].waiting = []) ∧
    (∀ n : TalkNo, s.outTalks[n] = none) ∧ (∀ k : Fin 32, s.listens[k] = none) ∧
    (∀ k : PortNo, s.ports[k].state = .disabled) ∧
    s.sched.notes = [] ∧ (∀ c : Cls, s.sched.queues[c] = []) ∧ s.audio.pass = none ∧
    s.ring.insertion = none ∧ s.ring.buffer = [] ∧ s.ring.gapOwed = false ∧ s.ring.framing = .hunting ∧
    s.ring.handOff = []

/-- Incoming talk records on mix T k exist only while field port k is in an admitted state (R52). -/
def State.ReturnTalksAdmitted (s : State) : Prop :=
  ∀ k : PortNo, s.talks[returnMix k] = ⟨[], []⟩ ∨ s.ports[k].state.admitted = true

/-- Each key (talker station, talk number, mix) has at most one incoming talk record (R48). -/
def State.KeysUnique (s : State) : Prop :=
  ∀ m : Mix, ((s.talks[m].granted ++ s.talks[m].waiting).map fun t => (t.talker, t.number)).Nodup

/-- Holders count the GRANTED records of their mix and input, every GRANTED record has its entry, keys appear once, and an entry has a fixed level or a holder (R3). -/
def State.HoldersCountGranted (s : State) : Prop :=
  ∀ m : Mix,
    (∀ r ∈ s.routes[m], r.holders = (s.talks[m].granted.filter fun t => s.input t.source == some r.input).length ∧
      (0 < r.fixedLevel ∨ 0 < r.holders)) ∧
    (∀ t ∈ s.talks[m].granted, ∃ i, s.input t.source = some i ∧ hasRoute s.routes[m] i = true) ∧
    (s.routes[m].map Route.input).Nodup

/-- Every listen entry counts the route entries of its source, each heard source has its one entry, and no entry is left without a route entry (R14). -/
def State.ListensFollowRoutes (s : State) : Prop :=
  (∀ k : Fin 32, ∀ e ∈ s.listens[k], e.refCount = (entriesOf s.routes e.source).length ∧ 0 < e.refCount ∧
    s.findListen e.source = some k) ∧
  ∀ r : Remote, entriesOf s.routes r ≠ [] → s.findListen r ≠ none

/-- A jitter buffer holds no sequence twice, and only sequences from the play sequence to seven after it; an EMPTY entry holds none (R151). -/
def State.BuffersInWindow (s : State) : Prop :=
  ∀ k : Fin 32, ∀ e ∈ s.listens[k],
    (e.buffer.map Stored.seq).Nodup ∧
    match e.play with
    | none => e.buffer = [] ∧ e.state = .empty
    | some p => e.state ≠ .empty ∧ ∀ b ∈ e.buffer, 0 ≤ serialDiff b.seq p ∧ serialDiff b.seq p ≤ 7

end Sys2Proof.Machine
end

