-- ==== Sys2Proof/WellFormed.lean ====
section
/-!
DEFINITION. The operands a command can carry that its types do not already fix: stations 0 to 62 where no "all stations"
is meant, hop counts 0 to 62, the markers read as IDLE, the argument words a frame can announce, and the frames
that end without having been a command of the table.
-/

namespace Sys2Proof

/-- A station number 0 to 62 ("Terms and abbreviations"). -/
def Station.isNumber (st : Station) : Bool := decide (st.val ≤ 62)

/-- A hop count 0 to 62 ("Word layouts"). -/
def isHopCount (h : Fin 64) : Bool := decide (h.val ≤ 62)

/-- The marker of an IDLE word, or one of 7 to 15, read as one (R161). -/
def isIdleMarker (m : Fin 16) : Bool := m.val == 0 || decide (7 ≤ m.val)

/-- As many argument words as the 12-bit count field of a command header can announce ("Control frames"). -/
def isArguments (args : List Word) : Bool := decide (args.length < 4096)

/-- The words of a frame that was not taken as a command of the table: none, a first word 0, too few argument words, or a code outside the table (R185, R186). -/
def isLooseFrame (received : List Word) : Bool :=
  match received with
  | [] => true
  | h :: args =>
    h == 0 || decide (args.length < h.toNat / 4096 % 4096) ||
      !([0x01, 0x02, 0x03, 0x04, 0x05, 0x20, 0x21, 0x22, 0x23, 0x24, 0x25, 0x26, 0x27, 0x28, 0x29].contains
        (h.toNat / 16777216))

/-- Whether a command's operands are ones the part can meet. -/
def Instr.wellFormed : Instr → Bool
  | .deviceReset => true
  | .configure args => isArguments args
  | .keyDown args => isArguments args
  | .keyUp args => isArguments args
  | .setRoute args => isArguments args
  | .fieldReset args => isArguments args
  | .readRoutes args => isArguments args
  | .readOutTalk args => isArguments args
  | .readInTalks args => isArguments args
  | .readFeed args => isArguments args
  | .readField args => isArguments args
  | .readListen args => isArguments args
  | .readSend args => isArguments args
  | .readRoster args => isArguments args
  | .readCounters args => isArguments args
  | .nextEvent args => isArguments args
  | .frameAbort received => isLooseFrame received
  | .localSample _ => true
  | .mixPassEnd => true
  | .inboundSampleMoment _ => true
  | .outboundWordRequest _ => true
  | .trainWord _ => true
  | .codeWord _ _ => true
  | .sampleWord _ _ => true
  | .talkOnWord _ => true
  | .talkOffWord _ => true
  | .endWord _ => true
  | .idleWord _ marker => isIdleMarker marker
  | .gapTimerExpiry _ => true
  | .codeTimerExpiry _ => true
  | .linkSilenceExpiry _ => true
  | .holdoffExpiry _ => true
  | .alignmentLoss => true
  | .alignmentRegained => true
  | .ringDown => true
  | .ringUp => true
  | .messageHeader _ => true
  | .messageCutShort _ => true
  | .burst _ origin _ _ _ _ => origin.isNumber
  | .presence _ origin _ hop _ _ _ => origin.isNumber && isHopCount hop
  | .presenceCheckCopy _ _ => true
  | .join _ origin _ _ _ => origin.isNumber
  | .leave _ origin _ _ => origin.isNumber
  | .talk _ origin _ _ _ _ _ _ _ => origin.isNumber
  | .talkEnd _ origin _ _ => origin.isNumber
  | .talkState _ origin _ _ _ _ _ => origin.isNumber
  | .lapseTimerExpiry talker _ _ => talker.isNumber
  | .refreshTimerExpiry _ => true
  | .unansweredTimerExpiry _ => true
  | .presenceTimerExpiry => true
  | .absenceTimerExpiry station => station.isNumber
  | .subscriberExpiry _ station => station.isNumber
  | .joinRefreshExpiry _ => true
  | .insertionStart => true
  | .insertionEnd => true
  | .insertionBufferEmpty => true
  | .ringInIdleSymbol => true
  | .messageWordArrival _ => true

end Sys2Proof
end

