-- ==== Sys2Proof/Certificates/Slice0/Obligations.lean ====
section
/-!
DEFINITION. The statements for the provers, in the order of OBLIGATIONS.json. An equation `exec c s = .next { s with … }`
says that the command completes, what it changes, and that every other field stays as it was.
-/

open Sys2Proof Sys2Proof.Machine

/-! ### The step and the reset -/

/-- The front command is taken with the queue's rest (the model's convention, log entry 1). -/
def Obligations.StepTakesFrontCommand : Prop :=
  ∀ (c : Instr) (rest : List Instr) (s : State),
    step { s with pending := c :: rest } = exec c { s with pending := rest }

/-- On an empty queue one reference count passes (the model's convention, log entry 2). When time passes, the clock moves with the counters of R103 and R160; while ring-in has lost alignment, ring-out of a configured station lets out what it holds, one symbol each word time of 80 ns, and then idle symbols (R86, R97, R98; that it does so by the clock is log entry 10, the clock moved to a due time log entry 3). -/
def Obligations.EmptyQueueLetsOneCountPass : Prop :=
  (∀ s : State, s.pending = [] → step s = .next (s.reach (s.clock.now + 1))) ∧
  ∀ (s : State) (t : Nat),
    let d := t - s.clock.now
    let n := (t - s.ring.alignedAt) * 3125 / 6144 - (s.clock.now - s.ring.alignedAt) * 3125 / 6144
    let waiting := fun r : Ring => (if r.gapOwed then [Symbol.idle] else []) ++
      r.buffer.flatMap fun h => if h.ends then [Symbol.data h.word, Symbol.idle] else [Symbol.data h.word]
    let left := match s.ring.insertion with
      | some i => i.left
      | none => waiting s.ring
    ∃ r : Ring,
      s.reach t = { s with
        clock := ⟨s.clock.now + d, s.clock.startCounter + BitVec.ofNat 16 d, s.clock.stampCounter + BitVec.ofNat 24 d⟩
        ring := r } ∧
      (s.ring.aligned = true ∨ s.mode = .unconfigured ∨ n = 0 → r = s.ring) ∧
      (s.ring.aligned = false → s.mode ≠ .unconfigured → 0 < n →
        r.swept = left.take n ∧ r.out = left.getD (n - 1) .idle ∧
        (∀ i, s.ring.insertion = some i → r.insertion = some { i with left := i.left.drop n } ∧
          r.buffer = s.ring.buffer ∧ r.gapOwed = s.ring.gapOwed) ∧
        (s.ring.insertion = none → r.insertion = none ∧ waiting r = left.drop n ∧ r.buffer <:+ s.ring.buffer) ∧
        r = { s.ring with
          insertion := r.insertion, buffer := r.buffer, gapOwed := r.gapOwed, out := r.out, swept := r.swept })

/-- What a device reset leaves in every table, queue and register whose value the chapters give, with every field of each port but the word it last sent, of which no rule speaks (log entry 20) (R2, R17, R33, R47, R68, R69, R102, R105, R129, R130, R143, R159, R160, R174, R194). That the select line then counts as released is the model's choice (log entry 18). -/
def Obligations.ResetEmptiesEveryTable : Prop :=
  let s := State.reset
  s.mode = .unconfigured ∧ s.bypassClosed = true ∧ s.cfg.number = none ∧ s.cfg.startStamp = none ∧
  s.cfg.jitterTarget = 1 ∧ s.cfg.fixedClass = 3 ∧ s.presenceDue = none ∧
  s.ring.status = .down ∧ s.ring.buffer = [] ∧ s.ring.gapOwed = false ∧ s.ring.insertion = none ∧
  (∀ m, s.ring.framing ≠ .message m) ∧ s.ring.handOff = [] ∧
  s.audio.blockCounter = 0 ∧ s.audio.current = [] ∧ s.audio.pass = none ∧
  (∀ n : Fin 16, s.audio.completed[n] = Vector.replicate 48 0 ∧ s.audio.delivered[n] = none ∧ s.lineOut n = 0) ∧
  (∀ m : Mix, s.mixes[m] = ⟨32768, 0, 0, 0, 0, 0, false⟩ ∧ s.routes[m] = [] ∧ s.talks[m] = ⟨[], []⟩ ∧
    s.cfg.mixes[m] = ⟨0, none, 0, 32768, 0, 0, BitVec.ofInt 24 (-8388608), BitVec.ofInt 24 8388607, 0⟩) ∧
  (∀ n : TalkNo, s.outTalks[n] = none) ∧ (∀ k : Fin 32, s.listens[k] = none) ∧
  (∀ n : SourceNo, s.sends[n] = [] ∧ s.sched.last[n] = none) ∧
  s.sched.notes = [] ∧ (∀ c : Cls, s.sched.queues[c] = [] ∧ s.cfg.talkLevels[c] = 0) ∧
  (∀ r : Fin 63, s.roster[r] = ⟨false, none, none, 0, 0, 0⟩) ∧
  (∀ k : PortNo, s.ports[k] = { s.ports[k] with
    state := .disabled, idResult := .notVerified, stamps := [], codes := [], interval := none
    stagedIn := none, stagedOut := none, activeIn := none, activeOut := none, trained := none
    failures := 0, lastFault := .none, settled := 0, elastic := [], outbound := []
    enabled := false, access := 0, target := none
    gapDue := none, codeDue := none, silenceDue := none, holdoffDue := none
    phaseIn := 0, lastIn := 0, progress := [], completed := Vector.replicate 48 0, phaseOut := 0, lastOut := 0 }) ∧
  s.events = ⟨[], 0⟩ ∧ s.eventLine = false ∧ s.response = none ∧ s.responseFrame = [0x00300000#32] ∧ s.selected = false ∧ s.frameReply = none ∧
  s.counters = ⟨0, 0, 0, 0, 0, 0, 0, 0, 0, 0, 0, 0, 0, 0, 0, 0⟩

/-- DEVICE_RESET leaves the state of `State.reset`, whatever was in flight (R102, R194). What stays or is put at the time of the reset is the model's choice: the waiting commands and the free value's counter stay (log entries 1, 8 and 26), the clock and the alignment of ring-in stay (log entries 5 and 6), and the last sample period and block completion stand at the reset (log entry 3). -/
def Obligations.DeviceResetReturnsToReset : Prop :=
  ∀ s : State, exec .deviceReset s = .next
    { State.reset with
      pending := s.pending
      clock := s.clock
      choices := s.choices
      audio := { State.reset.audio with sampleAt := s.clock.now, completedAt := s.clock.now }
      ring := { State.reset.ring with
        aligned := s.ring.aligned, alignedAt := s.clock.now, out := if s.ring.aligned then .idle else .lost } }

/-! ### The control port -/

/-- A command taken replaces the held response, and its frame sends the response held at its assertion; a response frame carries the held response, or code 0 and BAD_ARG while none is held. The release of the select line ends the frame: an incomplete one, or one opened by 0, only sent the held response, and a code outside the table is answered BAD_ARG. A frame clocked in is the command its header names, words after its last argument word not being read (R185, R186). What a frame leaves in the state is the model's choice (log entry 18), and so are that its commands join the end of the queue (log entry 1) and that bits 11 to 0 of a command header are not read (log entry 33). -/
def Obligations.FramesLeaveTheirResponse : Prop :=
  let table : List Nat := [0x01, 0x02, 0x03, 0x04, 0x05, 0x20, 0x21, 0x22, 0x23, 0x24, 0x25, 0x26, 0x27, 0x28, 0x29]
  ((∀ (s : State) (code : BitVec 8) (r : Result) (why : RefusalReason) (ws : List Word), s.respond code r why ws =
      { s with response := some ⟨code, r, why, ws⟩, selected := true, frameReply := s.response }) ∧
    (∀ s : State, s.responseFrame = frameOf s.response ∧ s.sentFrame = frameOf s.frameReply) ∧
    frameOf none = [0x00300000#32] ∧
    (∀ r : Response, r.words.length < 4096 →
      ∃ h : Word, frameOf (some r) = h :: r.words ∧ bits h 24 8 = r.code.toNat ∧ bits h 20 4 = r.result.code ∧
        bits h 16 4 = r.reason.code ∧ bits h 4 12 = r.words.length ∧ bits h 0 4 = 0)) ∧
  ((∀ s : State, (s.selected = true → exec (.frameAbort []) s = .next { s with selected := false }) ∧
      (s.selected = false → exec (.frameAbort []) s = .next { s with frameReply := s.response })) ∧
    (∀ (s : State) (h : Word) (args : List Word),
      (h = 0 ∨ args.length < bits h 12 12 → exec (.frameAbort (h :: args)) s = .next
        { s with selected := false, frameReply := s.response }) ∧
      (h ≠ 0 → bits h 12 12 ≤ args.length → bits h 24 8 ∈ table →
        exec (.frameAbort (h :: args)) s = .next { s with selected := false }) ∧
      (h ≠ 0 → bits h 12 12 ≤ args.length → bits h 24 8 ∉ table → exec (.frameAbort (h :: args)) s = .next
        { s with
          response := some ⟨BitVec.ofNat 8 (bits h 24 8), .badArg, .none, []⟩
          selected := false, frameReply := s.response }))) ∧
  ((∀ (s : State) (ws : List Word), s.withFrame ws = { s with pending := s.pending ++ frameCommands ws }) ∧
    frameCommands [] = [.frameAbort []] ∧
    (∀ (h : Word) (args : List Word), args.length < bits h 12 12 ∨ bits h 24 8 ∉ table →
      frameCommands (h :: args) = [.frameAbort (h :: args)]) ∧
    (∀ (h : Word) (args unread : List Word), args.length = bits h 12 12 →
      let code := bits h 24 8
      let whole := frameCommands (h :: args ++ unread)
      (code = 0x01 → whole = [.configure args, .frameAbort []]) ∧ (code = 0x02 → whole = [.keyDown args, .frameAbort []]) ∧
      (code = 0x03 → whole = [.keyUp args, .frameAbort []]) ∧ (code = 0x04 → whole = [.setRoute args, .frameAbort []]) ∧
      (code = 0x05 → whole = [.fieldReset args, .frameAbort []]) ∧ (code = 0x20 → whole = [.readRoutes args, .frameAbort []]) ∧
      (code = 0x21 → whole = [.readOutTalk args, .frameAbort []]) ∧ (code = 0x22 → whole = [.readFeed args, .frameAbort []]) ∧
      (code = 0x23 → whole = [.readField args, .frameAbort []]) ∧ (code = 0x24 → whole = [.readListen args, .frameAbort []]) ∧
      (code = 0x25 → whole = [.readSend args, .frameAbort []]) ∧ (code = 0x26 → whole = [.readRoster args, .frameAbort []]) ∧
      (code = 0x27 → whole = [.readCounters args, .frameAbort []]) ∧ (code = 0x28 → whole = [.nextEvent args, .frameAbort []]) ∧
      (code = 0x29 → whole = [.readInTalks args, .frameAbort []])))

/-- A command with another number of argument words than it takes is answered BAD_ARG; KEY-DOWN, KEY-UP, SET-ROUTE and FIELD-RESET are answered NOT_CONFIGURED before CONFIGURE; neither changes anything else (R186 checks 1 and 2). -/
def Obligations.CommandsAreCheckedInOrder : Prop :=
  (∀ (s : State) (args : List Word),
      let bad := fun code : BitVec 8 => (Host.Outcome.next (s.respond code .badArg .none []) :
        Host.Outcome State Fault Refusal)
      (args.length ≠ 295 → exec (.configure args) s = bad 0x01) ∧
      (args.length ≠ 7 → exec (.keyDown args) s = bad 0x02) ∧
      (args.length ≠ 5 → exec (.setRoute args) s = bad 0x04) ∧
      (args.length ≠ 1 → exec (.keyUp args) s = bad 0x03 ∧ exec (.fieldReset args) s = bad 0x05 ∧
        exec (.readRoutes args) s = bad 0x20 ∧ exec (.readOutTalk args) s = bad 0x21 ∧
        exec (.readFeed args) s = bad 0x22 ∧ exec (.readField args) s = bad 0x23 ∧ exec (.readListen args) s = bad 0x24 ∧
        exec (.readSend args) s = bad 0x25 ∧ exec (.readInTalks args) s = bad 0x29) ∧
      (args ≠ [] → exec (.readRoster args) s = bad 0x26 ∧ exec (.readCounters args) s = bad 0x27 ∧
        exec (.nextEvent args) s = bad 0x28)) ∧
  (∀ (s : State) (args : List Word), s.mode = .unconfigured →
      let no := fun code : BitVec 8 => (Host.Outcome.next (s.respond code .notConfigured .none []) :
        Host.Outcome State Fault Refusal)
      (args.length = 7 → exec (.keyDown args) s = no 0x02) ∧ (args.length = 1 → exec (.keyUp args) s = no 0x03) ∧
      (args.length = 5 → exec (.setRoute args) s = no 0x04) ∧ (args.length = 1 → exec (.fieldReset args) s = no 0x05))

/-- READ-ROUTES: a mix's entries in creation order with every field; BAD_ARG above 23; no entries before CONFIGURE (R5). -/
def Obligations.ReadRoutesReturnsEntries : Prop :=
  (∀ (s : State) (m : Mix), exec (.readRoutes [word m.val]) s = .next
    (s.respond 0x20 .done .none (word s.routes[m].length :: s.routes[m].flatMap fun r =>
        word m.val :: r.input.words ++ [word r.fixedLevel, word r.holders, word r.talkLevel, word r.cls.val,
          word (max r.fixedLevel r.talkLevel)]))) ∧
  (∀ (s : State) (w : Word), 23 < w.toNat →
    exec (.readRoutes [w]) s = .next (s.respond 0x20 .badArg .none [])) ∧
  (∀ (s : State) (m : Mix), s.EmptyWhileUnconfigured → s.mode = .unconfigured →
    exec (.readRoutes [word m.val]) s = .next (s.respond 0x20 .done .none [0]))

/-- READ-IN-TALKS, READ-OUT-TALK, READ-FEED and READ-FIELD return the fields of their records, times in elapsed milliseconds, and change nothing else (R46, R66, R82, R173). The words of the clip mask, of a summary and of a record's state are the model's reading of R187 (log entry 16), and so is the elapsed time of READ-IN-TALKS without a limit (log entry 28); that its granted list and its wait list come as one list behind one count word is the model's choice (log entry 36). -/
def Obligations.TalkFeedAndFieldReadsReturnState : Prop :=
  ((∀ (s : State) (m : Mix),
      let row := fun (w : Bool) (t : InTalk) => [word t.talker.val, word t.number.val, word t.source.station.val,
        word t.source.index.val, word m.val, word t.cls.val, flagWord t.intr, flagWord w, flagWord t.preempted,
        word ((s.clock.now - t.lastRefresh) / 24576), word t.orderStamp.toNat]
      exec (.readInTalks [word m.val]) s = .next
        (s.respond 0x29 .done .none (word (s.talks[m].granted.length + s.talks[m].waiting.length) ::
              (s.talks[m].granted.flatMap (row false) ++ s.talks[m].waiting.flatMap (row true))))) ∧
    (∀ (s : State) (n : TalkNo), s.outTalks[n] = none → exec (.readOutTalk [word n.val]) s = .next
      (s.respond 0x21 .done .none [0xFFFFFFFF])) ∧
    (∀ (s : State) (n : TalkNo) (t : OutTalk), s.outTalks[n] = some t → exec (.readOutTalk [word n.val]) s = .next
      (s.respond 0x21 .done .none ([word n.val] ++
          (if t.source.val < 16 then [0, word t.source.val] else [1, word (t.source.val - 16)]) ++
          [word t.target.station.val, word (targetKindCode t.target.kind), word t.target.value.val, word t.cls.val,
            flagWord t.intr, word t.origin.code, word t.replies.length] ++
          (t.replies.flatMap fun r => [word r.station.val, word r.mix.val, word r.answer.code, word r.reason.code]) ++
          [word t.overflow, word t.summary.code, word (min ((s.clock.now - t.created) / 24576) 65535),
            flagWord t.heard]))) ∧
    (∀ (s : State) (w : Word), 23 < w.toNat →
      exec (.readInTalks [w]) s = .next (s.respond 0x29 .badArg .none [])) ∧
    (∀ (s : State) (w : Word), 31 < w.toNat →
      exec (.readOutTalk [w]) s = .next (s.respond 0x21 .badArg .none []))) ∧
  ((∀ (s : State) (m : Mix), exec (.readFeed [word m.val]) s = .next
      (s.respond 0x22 .done .none [word s.mixes[m].dimGain, word s.mixes[m].trim,
          word s.mixes[m].cleanRun, word s.mixes[m].high, word s.mixes[m].low, word s.mixes[m].wrong,
          flagWord s.mixes[m].clipped])) ∧
    (∀ (s : State) (k : PortNo), exec (.readField [word k.val]) s = .next
      (s.respond 0x23 .done .none [word s.ports[k].state.code, word s.ports[k].idResult.code,
          optWord s.ports[k].interval, optWord s.ports[k].activeIn, word s.ports[k].elastic.length,
          word s.ports[k].failures, word s.ports[k].lastFault.code])) ∧
    (∀ (s : State) (w : Word), 23 < w.toNat →
      exec (.readFeed [w]) s = .next (s.respond 0x22 .badArg .none [])) ∧
    (∀ (s : State) (w : Word), 7 < w.toNat →
      exec (.readField [w]) s = .next (s.respond 0x23 .badArg .none [])))

/-- READ-LISTEN: "free" or the entry, its stored sequences in increasing serial difference from the play sequence. READ-SEND: state, lowest class among the subscribers or none, and the subscribers. READ-ROSTER: the 63 records, then mode, ring status, own number and stamp (R101, R114, R116, R128, R158). The order of the fields, the coded states and the roster records without a count word are the model's reading (log entry 16), and so is the elapsed time of READ-SEND without a limit (log entry 28). -/
def Obligations.ListenSendAndRosterReadsReturnState : Prop :=
  ((∀ (s : State) (k : Fin 32), s.listens[k] = none → exec (.readListen [word k.val]) s = .next
      (s.respond 0x24 .done .none [0xFFFFFFFF])) ∧
    (∀ (s : State) (k : Fin 32) (e : ListenEntry), s.listens[k] = some e → s.BuffersInWindow →
      ∃ qs : List Seq, qs.Perm (e.buffer.map Stored.seq) ∧
        (∀ p, e.play = some p → qs.Pairwise fun a b => serialDiff a p < serialDiff b p) ∧
        exec (.readListen [word k.val]) s = .next
          (s.respond 0x24 .done .none ([word e.source.station.val, word e.source.index.val, word e.refCount, word e.cls.val, word e.state.code,
                flagWord e.absent, optWord (e.play.map BitVec.toNat), word qs.length] ++
              (qs.map fun q => word q.toNat) ++
              [word e.miss, word e.lateRx, word e.dup, word e.resync, word e.conceal,
                optWord (e.lastJoin.map fun t => min ((s.clock.now - t) / 24576) 65535)]))) ∧
    (∀ (s : State) (w : Word), 31 < w.toNat →
      exec (.readListen [w]) s = .next (s.respond 0x24 .badArg .none []))) ∧
  ((∀ (s : State) (n : SourceNo), ∃ c : Option Cls,
      (s.sends[n] = [] ↔ c = none) ∧
      (∀ x, c = some x → (∃ y ∈ s.sends[n], y.cls = x) ∧ ∀ y ∈ s.sends[n], x ≤ y.cls) ∧
      exec (.readSend [word n.val]) s = .next
        (s.respond 0x25 .done .none ([flagWord (!s.sends[n].isEmpty), optWord (c.map Fin.val), word s.sends[n].length] ++
            s.sends[n].flatMap fun x => [word x.station.val, word x.cls.val, word ((s.clock.now - x.lastJoin) / 24576)]))) ∧
    (∀ (s : State) (w : Word), 23 < w.toNat →
      exec (.readSend [w]) s = .next (s.respond 0x25 .badArg .none []))) ∧
  (∀ s : State, exec (.readRoster []) s = .next
      (s.respond 0x26 .done .none ((s.roster.toList.flatMap fun r => [flagWord r.present, optWord (r.stamp.map BitVec.toNat), word r.distance.val,
            word r.listens.toNat, word r.sends.toNat,
            optWord (r.lastHeard.map fun t => min ((s.clock.now - t) / 24576) 65535)]) ++
          [word s.mode.code, word s.ring.status.code, optWord (s.cfg.number.map Fin.val),
            optWord (s.cfg.startStamp.map BitVec.toNat)])))

/-- READ-COUNTERS returns the sixteen counters and clears them, as one change (R193). -/
def Obligations.ReadCountersClears : Prop :=
  ∀ s : State, exec (.readCounters []) s = .next
    { (s.respond 0x27 .done .none ([s.counters.check, s.counters.partialCopies, s.counters.ringIgnored,
        s.counters.dropOld, s.counters.lateTx, s.counters.stale, s.counters.noteDrop, s.counters.lateRx, s.counters.dup,
        s.counters.resync, s.counters.conceal, s.counters.overrun, s.counters.underrun, s.counters.arbiterIgnored,
        s.counters.sendIgnored, s.counters.talkerIgnored].map word)) with
      counters := ⟨0, 0, 0, 0, 0, 0, 0, 0, 0, 0, 0, 0, 0, 0, 0, 0⟩ }

/-- NEXT-EVENT removes and returns the oldest event, or none, with the lost count, which is then 0; the event line follows the queue; an event is appended below 64 events and otherwise discarded and counted up to 65535; and the words of each event kind, named values by their place in their table (R187, R191, R192; the places of summaries and causes are log entry 16). -/
def Obligations.EventQueueIsBoundedFifo : Prop :=
  ((∀ s : State, s.events.queue = [] → exec (.nextEvent []) s = .next
      { s.respond 0x28 .done .none [0xFFFFFFFF, word s.events.lost] with events := ⟨[], 0⟩ }) ∧
    (∀ (s : State) (e : Event) (es : List Event), s.events.queue = e :: es → exec (.nextEvent []) s = .next
      { s.respond 0x28 .done .none (e.words ++ [word s.events.lost]) with events := ⟨es, 0⟩ }) ∧
    (∀ s : State, s.eventLine = true ↔ s.events.queue ≠ [])) ∧
  (∀ (s : State) (e : Event),
      (s.events.queue.length < 64 → s.emit e = { s with events := ⟨s.events.queue ++ [e], s.events.lost⟩ }) ∧
      (64 ≤ s.events.queue.length → s.events.lost ≤ 65535 →
        s.emit e = { s with events := ⟨s.events.queue, min (s.events.lost + 1) 65535⟩ })) ∧
  (let orNone := fun (o : Option Nat) => match o with
      | none => (0xFFFFFFFF#32)
      | some x => word x
    let flag := fun b : Bool => if b then (1#32) else 0#32
    let summaries : List Summary := [.pending, .unanswered, .granted, .waiting, .refused]
    let causes : List Cause := [.grant, .promote, .preempted, .ended, .timeout, .talkerGone, .destDown]
    let states : List PortState := [.disabled, .idle, .training, .checking, .holdoff, .settling, .live, .retraining]
    let faults : List PortFault := [.none, .trainTimeout, .trainBroken, .trainRange, .trainSpread, .codeTimeout,
      .codeMismatch, .linkLost, .ended, .portReset]
    let results : List IdResult := [.notVerified, .mismatch, .verified]
    let changes : List StationChange := [.present, .absent, .restarted]
    let rings : List RingChange := [.up, .down, .duplicate]
    let directions : List Direction := [.up, .down]
    (∀ (n : TalkNo) su rel, (Event.tally n .panel su rel).words =
      [0, word n.val, 8, word (summaries.idxOf su), flag rel]) ∧
    (∀ (n : TalkNo) (k : PortNo) su rel, (Event.tally n (.field k) su rel).words =
      [0, word n.val, word k.val, word (summaries.idxOf su), flag rel]) ∧
    (∀ (m : Mix) (o : Station) (n : TalkNo) (src : SourceAddr) (c : Cls) f on cause,
      (Event.incoming m o n src c f on cause).words = [1, word m.val, word o.val, word n.val, word src.station.val,
        word src.index.val, word c.val, flag f, if on then 0 else 1, word (causes.idxOf cause)]) ∧
    (∀ (k : PortNo) b a f r n i (q : Seq), (Event.field k b a f r n i q).words = [2, word k.val, word (states.idxOf b),
      word (states.idxOf a), word (faults.idxOf f), word (results.idxOf r), word n, orNone i, word q.toNat]) ∧
    (∀ (o : Station) c (st : Option Seq) (q : Seq), (Event.station o c st q).words =
      [3, word o.val, word (changes.idxOf c), orNone (st.map BitVec.toNat), word q.toNat]) ∧
    (∀ (m : Mix) d k c (q : Seq), (Event.protect m d k c q).words =
      [4, word m.val, word (directions.idxOf d), word k, word c, word q.toNat]) ∧
    (∀ c (q : Seq) (foreign : Option Seq), (Event.ring c q foreign).words =
      [5, word (rings.idxOf c), word q.toNat, orNone (foreign.map BitVec.toNat)]))

/-- CONFIGURE in an UNCONFIGURED station: fields, stamp, presence timer, ACTIVE, bypass, ports, FIELD events in port order, first PRESENCE, DONE (R189). That the bypass opens within the command, with ring-out carrying an idle symbol and ring-in read from the next one, is the model's choice (log entry 12); what the frame of a command leaves in the state, here and below, is log entry 18. -/
def Obligations.ConfigureTakesEffect : Prop :=
  ∀ (s : State) (args : List Word) (c : Configuration),
    s.mode = .unconfigured → args.length = 295 → argConfiguration args = some c →
    ∃ t, exec (.configure args) s = .next t ∧
      t.mode = .active ∧
      t.cfg = ⟨some c.number, some s.clock.startCounter, c.jitterTarget, c.fixedClass, c.talkLevels, c.mixes⟩ ∧
      t.presenceDue = some (s.clock.now + 2457600) ∧
      t.ring = { s.ring with framing := .hunting, out := .idle } ∧
      (∀ k : PortNo, t.ports[k] = { s.ports[k] with
        enabled := c.ports[k].enabled, access := c.ports[k].access, target := some c.ports[k].target,
        state := if c.ports[k].enabled then .idle else s.ports[k].state }) ∧
      t.events = ((List.finRange 8).filter fun k => c.ports[k].enabled).foldl (fun q k => q.push
        (.field k s.ports[k].state .idle .none s.ports[k].idResult s.ports[k].failures s.ports[k].interval
          s.audio.blockCounter)) s.events ∧
      t.sched.notes = s.sched.notes ++ (if s.ring.status = .up ∧ s.sched.notes.length < 16 then
        [⟨63, .presence s.clock.startCounter (BitVec.ofNat 8 s.listenCount) (BitVec.ofNat 8 s.sendingCount)⟩] else []) ∧
      t.counters = (if s.ring.status = .up ∧ 16 ≤ s.sched.notes.length then
        { s.counters with noteDrop := satInc s.counters.noteDrop } else s.counters) ∧
      t.response = some ⟨0x01, .done, .none, [word c.number.val, word s.clock.startCounter.toNat]⟩ ∧
      t = { s with
        mode := t.mode, cfg := t.cfg, presenceDue := t.presenceDue, ring := t.ring, ports := t.ports, events := t.events
        sched := { s.sched with notes := t.sched.notes }, counters := t.counters, response := t.response, selected := true, frameReply := s.response }

/-- The argument words CONFIGURE takes, the clamped ones at their clamped values; words within their fields' ranges are taken whatever the clamped ones hold, and any word outside its range is answered BAD_ARG, as a second CONFIGURE is refused ALREADY, which change nothing else (R187, R188). That the index word of a base input of kind NONE is not read is the model's deduction (log entry 17). -/
def Obligations.ConfigureChecksItsArguments : Prop :=
  (∀ (args : List Word) (c : Configuration), argConfiguration args = some c →
      c.number.val = arg args 0 ∧ c.number.val ≤ 62 ∧ c.jitterTarget = max 1 (min (arg args 1) 6) ∧
      c.fixedClass.val = arg args 2 ∧ (∀ k : Fin 4, c.talkLevels[k] = arg args (3 + k.val) ∧ c.talkLevels[k] ≤ 65535) ∧
      (∀ m : Mix, c.mixes[m].group.val = arg args (7 + 10 * m.val) ∧
        c.mixes[m].base.map Fin.val = (if arg args (8 + 10 * m.val) = 0 then some (arg args (9 + 10 * m.val)) else none) ∧
        c.mixes[m].baseLevel = arg args (10 + 10 * m.val) ∧
        c.mixes[m].dimDepth = min (arg args (11 + 10 * m.val)) 32768 ∧
        c.mixes[m].dimRamp = min (arg args (12 + 10 * m.val)) 32768 ∧
        c.mixes[m].headroom.val = arg args (13 + 10 * m.val) ∧
        c.mixes[m].lo.signExtend 32 = args.getD (14 + 10 * m.val) 0 ∧
        c.mixes[m].hi.signExtend 32 = args.getD (15 + 10 * m.val) 0 ∧
        c.mixes[m].protect = min (arg args (16 + 10 * m.val)) 48) ∧
      (∀ k : PortNo, (c.ports[k].enabled = true ↔ arg args (247 + 6 * k.val) = 1) ∧
        c.ports[k].access.toNat = arg args (248 + 6 * k.val) * 4294967296 + arg args (249 + 6 * k.val) ∧
        c.ports[k].target.station.val = arg args (250 + 6 * k.val) ∧
        targetKindCode c.ports[k].target.kind = arg args (251 + 6 * k.val) ∧
        c.ports[k].target.value.val = arg args (252 + 6 * k.val))) ∧
  (let taken := fun args : List Word =>
      arg args 0 ≤ 62 ∧ arg args 2 ≤ 3 ∧ (∀ c : Cls, arg args (3 + c.val) ≤ 65535) ∧
      (∀ m : Mix, let i := 7 + 10 * m.val
        arg args i ≤ 7 ∧ (arg args (i + 1) = 3 ∨ (arg args (i + 1) = 0 ∧ arg args (i + 2) ≤ 15)) ∧
        arg args (i + 3) ≤ 65535 ∧ arg args (i + 6) ≤ 3 ∧
        (∃ lo hi : Sample, args.getD (i + 7) 0 = lo.signExtend 32 ∧ args.getD (i + 8) 0 = hi.signExtend 32)) ∧
      (∀ k : PortNo, let i := 247 + 6 * k.val
        arg args i ≤ 1 ∧ arg args (i + 1) ≤ 65535 ∧ arg args (i + 3) ≤ 63 ∧
        ((arg args (i + 4) = 0 ∧ arg args (i + 5) ≤ 23) ∨
          (arg args (i + 4) = 1 ∧ 1 ≤ arg args (i + 5) ∧ arg args (i + 5) ≤ 7)))
    ∀ (s : State) (args : List Word),
      (taken args → ∃ c, argConfiguration args = some c) ∧
      (args.length = 295 → s.mode ≠ .unconfigured →
        exec (.configure args) s = .next (s.respond 0x01 .refused .already [])) ∧
      (args.length = 295 → s.mode = .unconfigured → ¬ taken args →
        exec (.configure args) s = .next (s.respond 0x01 .badArg .none [])))

/-! ### The route table -/

/-- SET-ROUTE past its checks: an entry takes another level in its place and is recomputed, or is created last, or refused for space, or loses its fixed part, leaving the table only without holders; no other entry changes, and the listen table is told of a remote source, as FirstReferenceCreatesListenEntry states it (R4, R6 to R9, R13). -/
def Obligations.SetRouteChangesOneEntry : Prop :=
  ∀ (s : State) (args : List Word) (r : RouteArgs),
    s.mode ≠ .unconfigured → args.length = 5 → argRoute s.cfg.number args = some r →
    (loops r.mix r.input = true →
      exec (.setRoute args) s = .next (s.respond 0x04 .refused .loop [])) ∧
    (loops r.mix r.input = false → hasRoute s.routes[r.mix] r.input = false → r.level = 0 →
      exec (.setRoute args) s = .next (s.respond 0x04 .done .none [])) ∧
    (loops r.mix r.input = false → hasRoute s.routes[r.mix] r.input = false → 0 < r.level →
      ∀ why, s.spaceTest r.mix r.input 0 = some why →
      exec (.setRoute args) s = .next (s.respond 0x04 .refused why [])) ∧
    (loops r.mix r.input = false →
      hasRoute s.routes[r.mix] r.input = true ∨ (0 < r.level ∧ s.spaceTest r.mix r.input 0 = none) →
      let classes := (s.talks[r.mix].granted.filter fun x => s.input x.source == some r.input).map InTalk.cls
      ∃ t, exec (.setRoute args) s = .next t ∧ t.response = some ⟨0x04, .done, .none, []⟩ ∧
        (hasRoute s.routes[r.mix] r.input = false →
          t.routes = s.routes.set r.mix (s.routes[r.mix] ++ [⟨r.input, r.level, 0, 0, s.cfg.fixedClass⟩])) ∧
        (hasRoute s.routes[r.mix] r.input = true → 0 < r.level →
          t.routes = s.routes.set r.mix (s.routes[r.mix].map fun e =>
            if e.input = r.input ∧ e.fixedLevel ≠ r.level then
              ({ e with fixedLevel := r.level } : Route).recompute s.cfg classes
            else e)) ∧
        (hasRoute s.routes[r.mix] r.input = true → r.level = 0 →
          t.routes = s.routes.set r.mix (s.routes[r.mix].filterMap fun e =>
            if e.input = r.input then
              if e.holders = 0 then none else some (({ e with fixedLevel := 0 } : Route).recompute s.cfg classes)
            else some e)) ∧
        t = (({ s with routes := t.routes } : State).tellListens (match r.input with
          | .remote q => [q]
          | _ => [])).respond 0x04 .done .none [] ∧
        t = { s with
          routes := t.routes, listens := t.listens, sched := { s.sched with notes := t.sched.notes }
          counters := t.counters, response := t.response, selected := true, frameReply := s.response })

/-- The three space tests of a new route entry, in their order; within a hold exchange the listen entries it frees, `freed` of them, count as free (R8, R12). -/
def Obligations.SpaceTestsInOrder : Prop :=
  ∀ (s : State) (m : Mix) (i : Input) (freed : Nat),
    let size := ((List.finRange 24).map fun m : Mix => s.routes[m].length).sum
    (192 ≤ size → s.spaceTest m i freed = some .tableFull) ∧
    (size < 192 → 12 ≤ s.routes[m].length → s.spaceTest m i freed = some .mixFull) ∧
    (size < 192 → s.routes[m].length < 12 → ∀ r, i = .remote r → s.findListen r = none → 32 + freed ≤ s.listenCount →
      s.spaceTest m i freed = some .listenFull) ∧
    (size < 192 → s.routes[m].length < 12 →
      (∀ r, i = .remote r → s.findListen r ≠ none ∨ s.listenCount < 32 + freed) → s.spaceTest m i freed = none)

/-- SET-ROUTE's argument words for its three input kinds, and those that answer BAD_ARG (R6 checks 1 to 3, R187). -/
def Obligations.SetRouteReadsItsArguments : Prop :=
  ∀ (s : State) (m : Mix) (l : Fin 65536) (x : Word),
    (∀ n : Fin 16, argRoute s.cfg.number [word m.val, 0, word n.val, x, word l.val] = some ⟨m, .loc n, l.val⟩) ∧
    (∀ k : PortNo, argRoute s.cfg.number [word m.val, 1, word k.val, x, word l.val] = some ⟨m, .field k, l.val⟩) ∧
    (∀ (st : Station) (i : SourceNo), st.val ≠ 63 → some st ≠ s.cfg.number →
      argRoute s.cfg.number [word m.val, 2, word i.val, word st.val, word l.val] = some ⟨m, .remote ⟨st, i⟩, l.val⟩) ∧
    (∀ a b c d e : Word, s.mode ≠ .unconfigured →
      23 < a.toNat ∨ 65535 < e.toNat ∨ 2 < b.toNat ∨
        (b = 0 ∧ 15 < c.toNat) ∨ (b = 1 ∧ 7 < c.toNat) ∨ (b = 2 ∧ 23 < c.toNat) ∨
        (b = 2 ∧ (63 ≤ d.toNat ∨ some d.toNat = s.cfg.number.map Fin.val)) →
      exec (.setRoute [a, b, c, d, e]) s = .next (s.respond 0x04 .badArg .none []))

/-- What the listen table is told of a remote source: its first route entry creates a listen entry at the lowest free index, with a JOIN unless its station is ABSENT; the last one to go releases it with one LEAVE; any other change sets its count and class, a changed class being told by a JOIN while the mark is clear. Of two sources, the release comes before the creation (R13 to R15, R122, R124, R125, R145, R146; log entry 15). SET-ROUTE, holds, releases and exchanges tell it so (SetRouteChangesOneEntry, HoldTakesOneHolder). -/
def Obligations.FirstReferenceCreatesListenEntry : Prop :=
  ∀ (s : State) (q : Remote),
    let entries := fun p : Remote => (List.finRange 24).flatMap fun m : Mix => s.routes[m].filter fun x => x.input == .remote p
    let least := fun (p : Remote) (c : Cls) => (∃ x ∈ entries p, x.cls = c) ∧ ∀ x ∈ entries p, c ≤ x.cls
    let made := fun (p : Remote) (c : Cls) (absent : Bool) => (⟨p, (entries p).length, c, .empty, absent, none, [],
      Vector.replicate 48 0, 0, 0, 0, 0, 0, if absent then none else some s.clock.now⟩ : ListenEntry)
    let unheard := fun p : Remote => ∀ (j : Fin 32) (x : ListenEntry), s.listens[j] = some x → x.source ≠ p
    s.tellListens [] = s ∧
    (unheard q →
      (entries q = [] → s.tellListens [q] = s) ∧
      ∀ (k : Fin 32) (c : Cls), s.listens[k] = none → (∀ j < k, s.listens[j] ≠ none) → least q c →
        (s.isPresent q.station = true → s.tellListens [q] =
          ({ s with listens := s.listens.set k (some (made q c false)) } : State).hand ⟨q.station, .join q.index c⟩) ∧
        (s.isPresent q.station = false → s.tellListens [q] =
          { s with listens := s.listens.set k (some (made q c true)) })) ∧
    (∀ (k : Fin 32) (e : ListenEntry), s.listens[k] = some e → e.source = q →
      (∀ (j : Fin 32) (x : ListenEntry), s.listens[j] = some x → x.source = q → j = k) →
      let left := ({ s with listens := s.listens.set k none } : State).hand ⟨q.station, .leave q.index⟩
      (entries q = [] → s.tellListens [q] = left) ∧
      (∀ c, least q c →
        let kept := { e with refCount := (entries q).length, cls := c }
        (c = e.cls ∨ e.absent = true → s.tellListens [q] = { s with listens := s.listens.set k (some kept) }) ∧
        (c ≠ e.cls → e.absent = false → s.tellListens [q] =
          ({ s with listens := s.listens.set k (some { kept with lastJoin := some s.clock.now }) } : State).hand
            ⟨q.station, .join q.index c⟩)) ∧
      (∀ (p : Remote) (c : Cls) (j : Fin 32), p ≠ q → entries q = [] → unheard p → least p c →
        j = k ∨ s.listens[j] = none → (∀ i < j, i ≠ k ∧ s.listens[i] ≠ none) → s.isPresent p.station = true →
        s.tellListens [q, p] = ({ left with listens := (s.listens.set k none).set j (some (made p c false)) } : State).hand
          ⟨p.station, .join p.index c⟩))

/-- A note handed over is queued below 16 in an ACTIVE station, counted at a full queue, and discarded uncounted in a SILENT one (R135); that an UNCONFIGURED station discards it the same way is the model's deduction (log entry 29). -/
def Obligations.NotesAreQueuedOrDropped : Prop :=
  ∀ (s : State) (n : Note),
    (s.mode = .active → s.sched.notes.length < 16 →
      s.hand n = { s with sched := { s.sched with notes := s.sched.notes ++ [n] } }) ∧
    (s.mode = .active → 16 ≤ s.sched.notes.length → s.counters.noteDrop ≤ 65535 →
      s.hand n = { s with counters := { s.counters with noteDrop := min (s.counters.noteDrop + 1) 65535 } }) ∧
    (s.mode ≠ .active → s.hand n = s)

/-- An entry's talk level is the largest class talk level of its holders, its class the lowest of theirs and, with a fixed level, the fixed class; nothing else of it changes (R4). -/
def Obligations.RecomputeFollowsHolders : Prop :=
  ∀ (cfg : StationConfig) (hs : List Cls) (r : Route),
    let q := r.recompute cfg hs
    (hs = [] → q.talkLevel = 0) ∧
    (∀ c ∈ hs, cfg.talkLevels[c] ≤ q.talkLevel) ∧ (hs ≠ [] → ∃ c ∈ hs, q.talkLevel = cfg.talkLevels[c]) ∧
    (∀ c ∈ hs, q.cls ≤ c) ∧ (0 < r.fixedLevel → q.cls ≤ cfg.fixedClass) ∧
    (hs ≠ [] ∨ 0 < r.fixedLevel → q.cls ∈ hs ∨ (0 < r.fixedLevel ∧ q.cls = cfg.fixedClass)) ∧
    q.effective = max q.fixedLevel q.talkLevel ∧
    q.input = r.input ∧ q.fixedLevel = r.fixedLevel ∧ q.holders = r.holders

/-- A hold succeeds on an existing entry, or where the space tests pass: the entry in its place, or a last one, has one holder more and is recomputed with the new record's class; it fails for a bad source, a loop or no space. A release takes one holder off and recomputes, or removes an entry that nothing holds. An exchange releases the victim's source and holds the new one as one change, or fails, for a bad source too. The listen table is told of the net change, in the order of log entry 15 (R4, R10 to R13). -/
def Obligations.HoldTakesOneHolder : Prop :=
  ∀ (s : State) (m : Mix) (a : SourceAddr) (c : Cls),
    let remotes := fun i : Input => match i with
      | .remote q => [q]
      | _ => []
    let classes := fun (records : List InTalk) (i : Input) =>
      (records.filter fun x => s.input x.source == some i).map InTalk.cls
    let held := fun (records : List InTalk) (l : List Route) (i : Input) =>
      if hasRoute l i then l.map fun e =>
        if e.input = i then
          ({ e with holders := e.holders + 1 } : Route).recompute s.cfg (classes records i ++ [c])
        else e
      else l ++ [(⟨i, 0, 1, 0, 3⟩ : Route).recompute s.cfg (classes records i ++ [c])]
    let without := fun (records : List InTalk) (i : Input) => s.routes[m].filterMap fun e =>
      if e.input = i then
        if e.holders ≤ 1 ∧ e.fixedLevel = 0 then none
        else some (({ e with holders := e.holders - 1 } : Route).recompute s.cfg (classes records i))
      else some e
    let told := fun (t : State) (l : List Route) (qs : List Remote) =>
      t = ({ s with routes := s.routes.set m l } : State).tellListens qs ∧
      t = { s with
        routes := s.routes.set m l, listens := t.listens, sched := { s.sched with notes := t.sched.notes }
        counters := t.counters }
    (((23 < a.index.val ∨ a.station.val = 63) → s.hold m a c = none) ∧
      (∀ i, s.input a = some i → loops m i = true → s.hold m a c = none) ∧
      (∀ i, s.input a = some i → hasRoute s.routes[m] i = false → s.spaceTest m i 0 ≠ none → s.hold m a c = none) ∧
      (∀ i, s.input a = some i → loops m i = false →
        hasRoute s.routes[m] i = true ∨ s.spaceTest m i 0 = none →
        ∃ t, s.hold m a c = some t ∧ told t (held s.talks[m].granted s.routes[m] i) (remotes i))) ∧
    ((s.input a = none → s.release m a = s) ∧
      (∀ i, s.input a = some i → told (s.release m a) (without s.talks[m].granted i) (remotes i))) ∧
    (∀ (v : InTalk) (rest : List InTalk), 23 < a.index.val ∨ a.station.val = 63 → s.exchange m v rest a c = none) ∧
    (∀ (v : InTalk) (rest : List InTalk) (vi i : Input), s.input v.source = some vi → s.input a = some i →
      (vi = i → ∃ t, s.exchange m v rest a c = some t ∧
        told t (s.routes[m].map fun e => if e.input = i then e.recompute s.cfg (classes rest i ++ [c]) else e)
          (remotes i)) ∧
      (vi ≠ i →
        let left := without rest vi
        let freed : State := { s with routes := s.routes.set m left }
        let free := (List.finRange 32).countP fun k => match s.listens[k] with
          | some e => (entriesOf freed.routes e.source).isEmpty
          | none => false
        (loops m i = true ∨ (hasRoute left i = false ∧ freed.spaceTest m i free ≠ none) →
          s.exchange m v rest a c = none) ∧
        (loops m i = false → hasRoute left i = true ∨ freed.spaceTest m i free = none →
          ∃ t, s.exchange m v rest a c = some t ∧ told t (held rest left i) (remotes vi ++ remotes i))))

/-! ### Talks at the destination -/

/-- The four tests of a new talk, in their order (R52). -/
def Obligations.TalkTestsInOrder : Prop :=
  ∀ (s : State) (m : Mix) (q : TalkRequest),
    let down := ∃ k : PortNo, m = returnMix k ∧ s.ports[k].state ≠ .settling ∧ s.ports[k].state ≠ .live ∧
      s.ports[k].state ≠ .retraining
    let loop := ∃ k : PortNo, m = returnMix k ∧ s.input q.source = some (.field k)
    let gone := some q.talker ≠ s.cfg.number ∧ s.isPresent q.talker = false
    let size := ((List.finRange 24).map fun m : Mix => s.talks[m].granted.length + s.talks[m].waiting.length).sum
    (down → s.talkTest m q = some .destDown) ∧ (¬ down → loop → s.talkTest m q = some .loop) ∧
    (¬ down → ¬ loop → gone → s.talkTest m q = some .talkerGone) ∧
    (¬ down → ¬ loop → ¬ gone → 48 ≤ size → s.talkTest m q = some .noRoom) ∧
    (¬ down → ¬ loop → ¬ gone → size < 48 → s.talkTest m q = none)

/-- A TALK for one mix where its record stands, from a peer or from the own talker: with the same source the record's timer restarts and its state is answered; with another source the record ends, as by a TALK-END, and the TALK is taken as a new one (R51; that a promotion the end makes is answered first is log entry 13). An answer goes to a peer as a TALK-STATE and to the own talker directly (R63). -/
def Obligations.TalkRefreshAnswersState : Prop :=
  ∀ (s : State) (o : Station) (n : TalkNo) (src : SourceAddr) (c : Cls) (f : Bool) (m : Mix) (r : InTalk),
    let q : TalkRequest := ⟨o, n, src, c, f⟩
    let m' : Fin 32 := ⟨m.val, by omega⟩
    let taken := s.takeTalk false q .mix m'
    let fresh := fun t : InTalk => if t.talker = o ∧ t.number = n then { t with lastRefresh := s.clock.now } else t
    let after := { s with talks := s.talks.set m ⟨s.talks[m].granted.map fresh, s.talks[m].waiting.map fresh⟩ }
    (∀ own, s.takesCopies = true → s.cfg.number = some own → own.val ≠ 63 → o ≠ own → s.ring.handOff = [] →
      exec (.talk true o own n src c f .mix m') s = .next taken) ∧
    (∀ a why, (some o ≠ s.cfg.number → s.answer o n m' a why = s.hand ⟨o, .talkState n m' a why⟩) ∧
      (some o = s.cfg.number → s.answer o n m' a why = s.takeReply n ⟨o, m', a, why⟩)) ∧
    (s.talks[m].granted.find? (fun t => t.isOf o n) = some r →
      (r.source = src → taken = after.answer o n m' .granted .none) ∧
      (r.source ≠ src → s.KeysUnique →
        let ended := ((({ s with talks := s.talks.set m ⟨s.talks[m].granted.erase r, s.talks[m].waiting⟩ } :
          State).release m r.source).emit (.incoming m o n r.source r.cls r.intr false .ended)).fill m
        (∀ x ∈ ended.talks[m].granted ++ ended.talks[m].waiting, ¬ (x.talker = o ∧ x.number = n)) ∧
        taken = ended.takeTalk false q .mix m')) ∧
    (s.talks[m].granted.find? (fun t => t.isOf o n) = none →
      s.talks[m].waiting.find? (fun t => t.isOf o n) = some r →
      (r.source = src → taken = after.answer o n m' (if r.preempted then .preempted else .waiting) .none) ∧
      (r.source ≠ src → s.KeysUnique →
        taken = ({ s with talks := s.talks.set m ⟨s.talks[m].granted, s.talks[m].waiting.erase r⟩ } :
          State).takeTalk false q .mix m'))

/-- A new TALK for a mix, from a peer or from the own talker: refused by a test or for want of a route, granted in a free slot, made to wait, or granted in the place of a victim of a higher class number, with its answers and INCOMING events (R52 to R56, R64, R65). That the answers come ahead of the INCOMING events, where a direct answer makes a TALLY event, is the model's choice (log entry 32). A peer's TALK copy is taken so; the own talker's reaches the arbiter directly (KeyDownCreatesTalk). -/
def Obligations.NewTalkIsArbitrated : Prop :=
  ∀ (s : State) (o : Station) (n : TalkNo) (src : SourceAddr) (c : Cls) (f : Bool) (m : Mix),
    s.talks[m].granted.find? (fun t => t.isOf o n) = none → s.talks[m].waiting.find? (fun t => t.isOf o n) = none →
    let q : TalkRequest := ⟨o, n, src, c, f⟩
    let rec' : InTalk := ⟨o, n, src, c, f, false, s.clock.now, s.audio.blockCounter⟩
    let m' : Fin 32 := ⟨m.val, by omega⟩
    let refusal := fun why => s.answer o n m' .refused why
    let on := Event.incoming m o n src c f true .grant
    let taken := s.takeTalk false q .mix m'
    (∀ own, s.takesCopies = true → s.cfg.number = some own → own.val ≠ 63 → o ≠ own → s.ring.handOff = [] →
      exec (.talk true o own n src c f .mix m') s = .next taken) ∧
    (∀ why, s.talkTest m q = some why → taken = refusal why) ∧
    (s.talkTest m q = none → s.talks[m].granted.length < 2 →
      (s.hold m src c = none → taken = refusal .noRoute) ∧
      (∀ t, s.hold m src c = some t → taken =
        (({ t with talks := s.talks.set m ⟨s.talks[m].granted ++ [rec'], s.talks[m].waiting⟩ } : State).answer
          o n m' .granted .none).emit on)) ∧
    (∀ a b, s.talkTest m q = none → s.talks[m].granted = [a, b] →
      let v := if b.cls < a.cls then a else b
      (v.cls ≤ c → ∃ w, w = s.talks[m].waiting.takeWhile (fun x => decide (x.cls ≤ c)) ++
          rec' :: s.talks[m].waiting.dropWhile (fun x => decide (x.cls ≤ c)) ∧
        taken = ({ s with talks := s.talks.set m ⟨[a, b], w⟩ } : State).answer o n m' .waiting .none) ∧
      (c < v.cls → s.exchange m v ([a, b].erase v) src c = none → taken = refusal .noRoute) ∧
      (∀ t, c < v.cls → s.exchange m v ([a, b].erase v) src c = some t →
        let w := s.talks[m].waiting.takeWhile (fun x => decide (x.cls < v.cls)) ++
          { v with preempted := true, orderStamp := s.audio.blockCounter } ::
            s.talks[m].waiting.dropWhile (fun x => decide (x.cls < v.cls))
        taken = (((({ t with talks := s.talks.set m ⟨[a, b].erase v ++ [rec'], w⟩ } : State).answer
          v.talker v.number m' .preempted .none).answer o n m' .granted .none).emit
            (.incoming m v.talker v.number v.source v.cls v.intr false .preempted)).emit on)) ∧
    (∀ m' : Mix, m' ≠ m → taken.talks[m'] = s.talks[m'] ∧ taken.routes[m'] = s.routes[m']) ∧
    taken = { s with
      routes := taken.routes, talks := taken.talks, outTalks := taken.outTalks, listens := taken.listens
      sched := { s.sched with notes := taken.sched.notes }, counters := taken.counters, events := taken.events }

/-- A TALK with a group target is taken as if it named each of the group's mixes alone, in increasing mix number; a bad target value is answered, or counted where the note named all stations. A peer's TALK copy, for this station or for all, is taken by the arbiter so (R50, R99). -/
def Obligations.TalkExpandsToMixes : Prop :=
  ∀ (s : State) (o : Station) (n : TalkNo) (src : SourceAddr) (c : Cls) (f : Bool) (v : Fin 32),
    let q : TalkRequest := ⟨o, n, src, c, f⟩
    let bad := s.answer o n v .refused .badTarget
    let ignored := { s with counters := { s.counters with arbiterIgnored := satInc s.counters.arbiterIgnored } }
    (∀ (own target : Station) (kind : TargetKind), s.takesCopies = true → s.cfg.number = some own → own.val ≠ 63 →
      o ≠ own → s.ring.handOff = [] →
      (target = own → exec (.talk true o target n src c f kind v) s = .next (s.takeTalk false q kind v)) ∧
      (target.val = 63 → exec (.talk true o target n src c f kind v) s = .next (s.takeTalk true q kind v))) ∧
    (1 ≤ v.val → v.val ≤ 7 → ∀ toAll, s.takeTalk toAll q .group v =
      ((List.finRange 24).filter fun m : Mix => s.cfg.mixes[m].group.val == v.val).foldl (fun u m =>
        u.takeTalk false q .mix ⟨m.val, by omega⟩) s) ∧
    (v.val = 0 ∨ 7 < v.val → s.takeTalk false q .group v = bad ∧ s.takeTalk true q .group v = ignored) ∧
    (23 < v.val → s.takeTalk false q .mix v = bad) ∧ s.takeTalk true q .mix v = ignored

/-- A TALK-END, of a peer or of the own talker, ends the record of its talker and talk number on each mix in increasing mix number, a GRANTED one with its release, its INCOMING event and the filling of its slot; the other GRANTED records stay. A free slot goes to the head of the wait list, which is refused NO_ROUTE where its hold fails (R58, R59). That the answer of a promotion comes ahead of its INCOMING event, where both make an event, is the model's choice (log entry 32). -/
def Obligations.TalkEndRemovesRecords : Prop :=
  (∀ (s : State) (o : Station) (n : TalkNo), s.KeysUnique →
    let t := s.takeTalkEnd o n
    (∀ own target : Station, s.takesCopies = true → s.cfg.number = some own → o ≠ own → s.ring.handOff = [] →
      (target = own ∨ target.val = 63) → exec (.talkEnd true o target n) s = .next t) ∧
    t = (List.finRange 24).foldl (fun (u : State) (m : Mix) =>
      match u.talks[m].granted.find? (fun x => x.talker == o && x.number == n) with
      | some r => ((({ u with talks := u.talks.set m ⟨u.talks[m].granted.erase r, u.talks[m].waiting⟩ } :
          State).release m r.source).emit (.incoming m o n r.source r.cls r.intr false .ended)).fill m
      | none =>
        let others := u.talks[m].waiting.filter fun x => !(x.talker == o && x.number == n)
        { u with talks := u.talks.set m ⟨u.talks[m].granted, others⟩ }) s ∧
    (∀ m : Mix, ∀ r ∈ t.talks[m].granted ++ t.talks[m].waiting, ¬ (r.talker = o ∧ r.number = n)) ∧
    (∀ m : Mix, ∀ r ∈ s.talks[m].granted, ¬ (r.talker = o ∧ r.number = n) → r ∈ t.talks[m].granted) ∧
    (∀ m : Mix, (∀ r ∈ s.talks[m].granted, ¬ (r.talker = o ∧ r.number = n)) →
      t.talks[m] = ⟨s.talks[m].granted, s.talks[m].waiting.filter fun r => !(r.talker == o && r.number == n)⟩ ∧
      t.routes[m] = s.routes[m]) ∧
    (∀ m : Mix, (∃ r ∈ s.talks[m].granted, r.talker = o ∧ r.number = n) →
      2 ≤ t.talks[m].granted.length ∨ t.talks[m].waiting = []) ∧
    t = { s with
      routes := t.routes, talks := t.talks, outTalks := t.outTalks, listens := t.listens
      sched := { s.sched with notes := t.sched.notes }, counters := t.counters, events := t.events }) ∧
  (∀ (s : State) (m : Mix),
    (2 ≤ s.talks[m].granted.length ∨ s.talks[m].waiting = [] → s.fill m = s) ∧
    (∀ w ws, s.talks[m].granted.length < 2 → s.talks[m].waiting = w :: ws →
      let m' : Fin 32 := ⟨m.val, by omega⟩
      let u : State := { s with talks := s.talks.set m ⟨s.talks[m].granted, ws⟩ }
      let w' := { w with preempted := false, orderStamp := s.audio.blockCounter }
      (u.hold m w.source w.cls = none → s.fill m = (u.answer w.talker w.number m' .refused .noRoute).fill m) ∧
      (∀ t, u.hold m w.source w.cls = some t → s.fill m =
        ((({ t with talks := s.talks.set m ⟨s.talks[m].granted ++ [w'], ws⟩ } : State).answer
          w.talker w.number m' .granted .none).emit
            (.incoming m w.talker w.number w.source w.cls w.intr true .promote)).fill m)))

/-- A record lapses 150 ms after its last refresh: a WAITING one leaves with LAPSED TIMEOUT; a GRANTED one is released, leaves with its TIMEOUT event and LAPSED TIMEOUT, and its slot is filled (R60). The removals for an absent talker and for a lost port take one record off in the same way, with their own reason and cause and without the filling (R61, R62). That the clock is moved to the due time is the model's choice (log entry 3), and that the event comes ahead of the reply its deduction (log entry 14). -/
def Obligations.LapseRemovesRecord : Prop :=
  (∀ (s : State) (m : Mix) (why : Reason) (cause : Cause) (r : InTalk),
    let m' : Fin 32 := ⟨m.val, by omega⟩
    State.removeWaiting m why s r =
      ({ s with talks := s.talks.set m ⟨s.talks[m].granted, s.talks[m].waiting.erase r⟩ } : State).answer
        r.talker r.number m' .lapsed why ∧
    State.removeGranted m why cause s r =
      ((({ s with talks := s.talks.set m ⟨s.talks[m].granted.erase r, s.talks[m].waiting⟩ } : State).release
        m r.source).emit (.incoming m r.talker r.number r.source r.cls r.intr false cause)).answer
          r.talker r.number m' .lapsed why) ∧
  ∀ (s : State) (o : Station) (n : TalkNo) (m : Mix) (r : InTalk),
    let m' : Fin 32 := ⟨m.val, by omega⟩
    let at' := s.reach (r.lastRefresh + 3686400)
    (s.talks[m].granted.find? (fun t => t.isOf o n) = none →
      s.talks[m].waiting.find? (fun t => t.isOf o n) = some r →
      exec (.lapseTimerExpiry o n m) s = .next
        (({ at' with talks := s.talks.set m ⟨s.talks[m].granted, s.talks[m].waiting.erase r⟩ } : State).answer
          o n m' .lapsed .timeout)) ∧
    (s.talks[m].granted.find? (fun t => t.isOf o n) = some r → s.KeysUnique →
      ∃ t, exec (.lapseTimerExpiry o n m) s = .next t ∧
        t = (((({ at' with talks := s.talks.set m ⟨s.talks[m].granted.erase r, s.talks[m].waiting⟩ } : State).release
          m r.source).emit (.incoming m o n r.source r.cls r.intr false .timeout)).answer o n m' .lapsed .timeout).fill m ∧
        (∀ x ∈ t.talks[m].granted ++ t.talks[m].waiting, ¬ (x.talker = o ∧ x.number = n)) ∧
        (∀ x ∈ s.talks[m].granted, x ≠ r → x ∈ t.talks[m].granted) ∧
        (2 ≤ t.talks[m].granted.length ∨ t.talks[m].waiting = []) ∧
        (∀ m' : Mix, m' ≠ m → t.talks[m'] = s.talks[m'] ∧ t.routes[m'] = s.routes[m']) ∧
        (∃ es : List Event, t.events = es.foldl EventQueue.push
          (s.events.push (.incoming m o n r.source r.cls r.intr false .timeout))) ∧
        t = { at' with
          routes := t.routes, talks := t.talks, outTalks := t.outTalks, listens := t.listens
          sched := { s.sched with notes := t.sched.notes }, counters := t.counters, events := t.events })

/-! ### Talks from this station -/

/-- KEY-DOWN creates a record under the lowest free number, queues its TALLY event, sends its TALK and answers with the number: toward a peer a TALK note is handed, toward the own station the own arbiter takes the TALK directly, toward all the arbiter takes it first and the note is handed then (R70, R71, R73). What the arbiter does with it is stated by NewTalkIsArbitrated and TalkExpandsToMixes. -/
def Obligations.KeyDownCreatesTalk : Prop :=
  ∀ (s : State) (args : List Word) (k : KeyArgs) (n : TalkNo) (own : Station),
    s.mode ≠ .unconfigured → s.cfg.number = some own → args.length = 7 → argKey args = some k →
    s.outTalks[n] = none → (∀ j < n, s.outTalks[j] ≠ none) →
    let q : TalkRequest := ⟨own, n, ⟨own, ⟨k.source.val, by omega⟩⟩, k.cls, k.intr⟩
    let made : State := { s with
      outTalks := s.outTalks.set n (some ⟨k.source, k.target, k.cls, k.intr, .panel, [], 0, .pending, s.clock.now,
        false, s.clock.now + 1228800, false⟩)
      events := s.events.push (.tally n .panel .pending false) }
    let note : Note := ⟨k.target.station, .talk n q.source k.cls k.intr k.target.kind k.target.value⟩
    let answered := fun u : State => exec (.keyDown args) s = .next (u.respond 0x02 .done .none [word n.val])
    (∃ t x, exec (.keyDown args) s = .next t ∧ t.response = some ⟨0x02, .done, .none, [word n.val]⟩ ∧
      t.outTalks[n] = some x ∧ x.source = k.source ∧ x.target = k.target ∧ x.cls = k.cls ∧ x.intr = k.intr ∧
      x.origin = .panel ∧ x.created = s.clock.now ∧ x.refreshDue = s.clock.now + 1228800 ∧
      (∃ es : List Event, t.events = es.foldl EventQueue.push (s.events.push (.tally n .panel .pending false))) ∧
      t = { s with
        routes := t.routes, talks := t.talks, outTalks := t.outTalks, listens := t.listens
        sched := { s.sched with notes := t.sched.notes }, counters := t.counters, events := t.events
        response := t.response, selected := true, frameReply := s.response }) ∧
    (k.target.station.val ≠ 63 → k.target.station ≠ own → answered (made.hand note)) ∧
    (own.val ≠ 63 → k.target.station = own → answered (made.takeTalk false q k.target.kind k.target.value)) ∧
    (own.val ≠ 63 → k.target.station.val = 63 →
      answered ((made.takeTalk true q k.target.kind k.target.value).hand note))

/-- KEY-DOWN's argument words, LOCAL and FIELD sources for MIX and GROUP targets: words within their fields' ranges are taken as their numbers, any word outside its range, as station 63 with a MIX, is answered BAD_ARG, and a taken one with all talk numbers held TALK_FULL; neither answer changes anything else (R71 checks 2 to 4, R187). -/
def Obligations.KeyDownChecksArguments : Prop :=
  let taken := fun args : List Word =>
    ((arg args 0 = 0 ∧ arg args 1 ≤ 15) ∨ (arg args 0 = 1 ∧ arg args 1 ≤ 7)) ∧ arg args 2 ≤ 63 ∧
    ((arg args 3 = 0 ∧ arg args 4 ≤ 23 ∧ arg args 2 ≠ 63) ∨ (arg args 3 = 1 ∧ 1 ≤ arg args 4 ∧ arg args 4 ≤ 7)) ∧
    arg args 5 ≤ 3 ∧ arg args 6 ≤ 1
  (∀ args : List Word, taken args → ∃ k, argKey args = some k ∧
    k.source.val = (if arg args 0 = 0 then arg args 1 else 16 + arg args 1) ∧
    k.target.station.val = arg args 2 ∧ k.target.kind = (if arg args 3 = 0 then .mix else .group) ∧
    k.target.value.val = arg args 4 ∧ k.cls.val = arg args 5 ∧ (k.intr = true ↔ arg args 6 = 1)) ∧
  (∀ args : List Word, ¬ taken args → argKey args = none) ∧
  (∀ (s : State) (args : List Word), s.mode ≠ .unconfigured → args.length = 7 →
    (¬ taken args → exec (.keyDown args) s = .next (s.respond 0x02 .badArg .none [])) ∧
    (taken args → (∀ n : TalkNo, s.outTalks[n] ≠ none) →
      exec (.keyDown args) s = .next (s.respond 0x02 .refused .talkFull [])))

/-- The release of a record sends one TALK-END, to a peer as a note, to the own arbiter directly, or to both for all stations, queues one released TALLY event with the last summary and frees the number. KEY-UP releases the record of its number; a free number is answered DONE and changes nothing; above 31 BAD_ARG (R73, R75). -/
def Obligations.KeyUpReleasesTalk : Prop :=
  ∀ s : State, s.mode ≠ .unconfigured →
    (∀ w : Word, 31 < w.toNat → exec (.keyUp [w]) s = .next (s.respond 0x03 .badArg .none [])) ∧
    ∀ n : TalkNo,
      (s.outTalks[n] = none →
        exec (.keyUp [word n.val]) s = .next (s.respond 0x03 .done .none [])) ∧
      (∀ x own, s.outTalks[n] = some x → s.cfg.number = some own →
        (∃ t q su, exec (.keyUp [word n.val]) s = .next t ∧ t.outTalks[n] = none ∧
          t.response = some ⟨0x03, .done, .none, []⟩ ∧ t.events = EventQueue.push q (.tally n x.origin su true) ∧
          t = { s with
            routes := t.routes, talks := t.talks, outTalks := t.outTalks, listens := t.listens
            sched := { s.sched with notes := t.sched.notes }, counters := t.counters, events := t.events
            response := t.response, selected := true, frameReply := s.response }) ∧
        exec (.keyUp [word n.val]) s = .next ((s.releaseTalk n).respond 0x03 .done .none []) ∧
        (let heard := s.takeTalkEnd own n
          let summary := ((heard.outTalks[n]).map OutTalk.summary).getD x.summary
          let note : Note := ⟨x.target.station, .talkEnd n⟩
          let released := fun (u : State) (su : Summary) => s.releaseTalk n = { u with
            outTalks := u.outTalks.set n none
            events := u.events.push (.tally n x.origin su true) }
          (x.target.station.val ≠ 63 → x.target.station ≠ own → released (s.hand note) x.summary) ∧
          (own.val ≠ 63 → x.target.station = own → released heard summary) ∧
          (own.val ≠ 63 → x.target.station.val = 63 → released (heard.hand note) summary)))

/-- A reply, the TALK-STATE of a peer or one the own arbiter gives directly, is taken into the reply list of its record, which is summed again with its TALLY event, or is counted as ignored (R63, R77, R78, R81). -/
def Obligations.TalkStateUpdatesReplies : Prop :=
  ∀ (s : State) (o : Station) (n : TalkNo) (m : Fin 32),
    let ignored := { s with counters := { s.counters with talkerIgnored := satInc s.counters.talkerIgnored } }
    (∀ (own : Station) (st : Fin 8) (re : Fin 16), s.takesCopies = true → s.cfg.number = some own → own.val ≠ 63 →
      o ≠ own → s.ring.handOff = [] →
      (5 ≤ st.val ∨ 8 ≤ re.val → exec (.talkState true o own n m st re) s = .next ignored) ∧
      (∀ a r, TalkAnswer.ofCode st = some a → Reason.ofCode re = some r →
        exec (.talkState true o own n m st re) s = .next (s.takeReply n ⟨o, m, a, r⟩))) ∧
    (∀ a r, s.outTalks[n] = none → s.takeReply n ⟨o, m, a, r⟩ = ignored) ∧
    ∀ x a r, s.outTalks[n] = some x →
      ((x.target.station.val ≠ 63 ∧ x.target.station ≠ o) ∨ (x.target.kind = .mix ∧ x.target.value ≠ m) →
        s.takeReply n ⟨o, m, a, r⟩ = ignored) ∧
      ((x.target.station.val = 63 ∨ x.target.station = o) → (x.target.kind = .group ∨ x.target.value = m) →
        let found := x.replies.any fun y => y.station == o && y.mix == m
        let replies := if found then x.replies.map fun y => if y.station = o ∧ y.mix = m then ⟨o, m, a, r⟩ else y
          else if x.replies.length < 8 then x.replies ++ [⟨o, m, a, r⟩] else x.replies
        let su := summaryOf replies true x.answerTimerRan
        s.takeReply n ⟨o, m, a, r⟩ = { s with
          outTalks := s.outTalks.set n (some { x with
            replies := replies, heard := true, summary := su
            overflow := if found ∨ x.replies.length < 8 then x.overflow else satInc x.overflow })
          events := if su = x.summary then s.events else s.events.push (.tally n x.origin su false) })

/-- The summary in its order of precedence (R79). -/
def Obligations.SummaryPrecedence : Prop :=
  ∀ (rs : List Reply) (heard ran : Bool),
    let has := fun a => ∃ r ∈ rs, r.answer = a
    (summaryOf rs heard ran = .granted ↔ has .granted) ∧
    (summaryOf rs heard ran = .waiting ↔ ¬ has .granted ∧ (has .waiting ∨ has .preempted)) ∧
    (summaryOf rs heard ran = .refused ↔
      ¬ has .granted ∧ ¬ has .waiting ∧ ¬ has .preempted ∧ (has .refused ∨ has .lapsed)) ∧
    (summaryOf rs heard ran = .unanswered ↔ rs = [] ∧ heard = false ∧ ran = true) ∧
    (summaryOf rs heard ran = .pending ↔ rs = [] ∧ ¬ (heard = false ∧ ran = true))

/-- The two timers of an outgoing talk: the refresh sends its TALK again, to a peer, to the own arbiter directly, or to both, and runs on 50 ms later; the UNANSWERED timer tells a record that nothing has answered (R73, R74, R79). That the clock is moved to the due time is the model's choice (log entry 3). -/
def Obligations.OutTalkTimersAct : Prop :=
  ∀ (s : State) (n : TalkNo) (x : OutTalk) (own : Station), s.outTalks[n] = some x → s.cfg.number = some own →
    (∃ t y, exec (.refreshTimerExpiry n) s = .next t ∧ t.outTalks[n] = some y ∧ y.refreshDue = x.refreshDue + 1228800 ∧
      y.source = x.source ∧ y.target = x.target ∧ y.cls = x.cls ∧ y.intr = x.intr ∧ y.origin = x.origin ∧
      y.created = x.created ∧
      t = { s.reach x.refreshDue with
        routes := t.routes, talks := t.talks, outTalks := t.outTalks, listens := t.listens
        sched := { s.sched with notes := t.sched.notes }, counters := t.counters, events := t.events }) ∧
    (let made : State := { s.reach x.refreshDue with
        outTalks := s.outTalks.set n (some { x with refreshDue := x.refreshDue + 1228800 }) }
      let q : TalkRequest := ⟨own, n, ⟨own, ⟨x.source.val, by omega⟩⟩, x.cls, x.intr⟩
      let note : Note := ⟨x.target.station, .talk n q.source x.cls x.intr x.target.kind x.target.value⟩
      (x.target.station.val ≠ 63 → x.target.station ≠ own →
        exec (.refreshTimerExpiry n) s = .next (made.hand note)) ∧
      (own.val ≠ 63 → x.target.station = own → exec (.refreshTimerExpiry n) s = .next
        (made.takeTalk false q x.target.kind x.target.value)) ∧
      (own.val ≠ 63 → x.target.station.val = 63 → exec (.refreshTimerExpiry n) s = .next
        ((made.takeTalk true q x.target.kind x.target.value).hand note))) ∧
    (x.answerTimerRan = false → x.replies = [] → x.heard = false → exec (.unansweredTimerExpiry n) s = .next
      { s.reach (x.created + 3686400) with
        outTalks := s.outTalks.set n (some { x with answerTimerRan := true, summary := .unanswered })
        events := if x.summary = .unanswered then s.events
          else s.events.push (.tally n x.origin .unanswered false) }) ∧
    (x.answerTimerRan = false → x.replies ≠ [] ∨ x.heard = true → exec (.unansweredTimerExpiry n) s = .next
      { s.reach (x.created + 3686400) with
        outTalks := s.outTalks.set n (some { x with answerTimerRan := true }) })

/-! ### Local audio, the pass and the mixes -/

/-- A sample period short of the 48th only joins the current blocks. In a sample period line K n plays the sample of its playing block at the period's place, sample 0 first, and 0 where no block is playing. The 48th completes the block: the counter, the completed blocks, what the lines play, the time of the completion; a pass starts in a configured station; each field port takes its part (R18 to R20, R34, R168, R176, R177). The clock moved to the sample period's time and the two times it leaves are the model's choice (log entry 3), and so are the completion count behind the free value (log entry 8) and the order of the ports' FIELD events (log entry 31). A pass still in flight at that moment is left out here (log entry 7). -/
def Obligations.LocalSampleFillsAndCompletesBlock : Prop :=
  (∀ (s : State) (x : Vector Sample 16), s.audio.current.length < 47 →
      exec (.localSample x) s = .next
        { s.reach (s.audio.sampleAt + 512) with
          audio := { s.audio with current := s.audio.current ++ [x], sampleAt := s.audio.sampleAt + 512 } }) ∧
  (∀ (s : State) (n : Fin 16),
      (s.audio.playing[n] = none → s.lineOut n = 0) ∧
      (∀ (b : Block) (j : Fin 48), s.audio.playing[n] = some b → s.audio.current.length = j.val → s.lineOut n = b[j])) ∧
  (∀ (s : State) (x : Vector Sample 16), s.audio.current.length = 47 → s.audio.pass = none →
      ∃ t, exec (.localSample x) s = .next t ∧
        t.audio.blockCounter = s.audio.blockCounter + 1 ∧ t.audio.current = [] ∧
        (∀ (n : Fin 16) (j : Fin 48), t.audio.completed[n][j] =
          ((s.audio.current ++ [x]).getD j.val (Vector.replicate 16 0))[n]) ∧
        t.audio.delivered = s.audio.delivered ∧ t.audio.playing = s.audio.delivered ∧
        (∀ n : Fin 16, t.lineOut n = match s.audio.delivered[n] with
          | some b => b[0]
          | none => 0) ∧
        t.audio.completedAt = s.audio.sampleAt + 512 ∧ t.audio.sampleAt = s.audio.sampleAt + 512 ∧
        (t.audio.pass.isSome = true ↔ s.mode ≠ .unconfigured) ∧
        (∀ k : PortNo,
          let p := s.ports[k]
          let n := min 8 (p.settled + 1)
          (p.state = .settling → t.ports[k] = { p with
            activeIn := p.stagedIn, activeOut := p.stagedOut, settled := n
            state := if n = 8 ∧ 96 ≤ p.elastic.length then .live else .settling }) ∧
          (p.state = .live → ∀ a g, p.stagedIn = some a → p.trained = some g → t.ports[k] = { p with
            activeIn := some a, activeOut := p.stagedOut
            stagedIn := some (if 120 < p.elastic.length then min (a + 8) (g + g / 128)
              else if p.elastic.length < 72 then max (a - 8) (g - g / 128) else a) }) ∧
          (p.state ≠ .settling → p.state ≠ .live → t.ports[k] = p)) ∧
        t.events = (List.finRange 8).foldl (fun q k =>
          if s.ports[k].state = .settling ∧ 7 ≤ s.ports[k].settled ∧ 96 ≤ s.ports[k].elastic.length then
            q.push (.field k .settling .live .none s.ports[k].idResult s.ports[k].failures s.ports[k].interval
              (s.audio.blockCounter + 1))
          else q) s.events ∧
        (s.mode = .unconfigured → t.mixes = s.mixes ∧ t.listens = s.listens ∧ t.sched.queues = s.sched.queues.map
          fun l => l.map fun b => { b with age := min 4 (b.age + 1) }) ∧
        t = { s.reach (s.audio.sampleAt + 512) with
          audio := t.audio, choices := s.choices + 1, mixes := t.mixes, listens := t.listens
          sched := { t.sched with notes := s.sched.notes }
          ring := { (s.reach (s.audio.sampleAt + 512)).ring with
            insertion := (s.reach (s.audio.sampleAt + 512)).ring.insertion.map fun i => { i with
              message := match i.message with
                | .note n => .note n
                | .burst b => .burst { b with age := min 4 (b.age + 1) } } }
          counters := t.counters, ports := t.ports
          events := t.events })

/--
The pass of a completion takes, for each mix, its terms with their weights, its headroom, trim and limits; the dim gain
steps toward its target first; and every listen entry plays one block, CONCEAL counting each that misses its block (R20 to R25, R36 to R38, R153, R154,
R157).
-/
def Obligations.PassTakesItsValues : Prop :=
  ∀ (s : State) (x : Vector Sample 16),
    s.audio.current.length = 47 → s.audio.pass = none → s.mode ≠ .unconfigured →
    ∃ t p, exec (.localSample x) s = .next t ∧ t.audio.pass = some p ∧ p.number = s.audio.blockCounter + 1 ∧
      (∀ m : Mix,
        let c := s.cfg.mixes[m]
        let target := if s.talks[m].granted.any InTalk.intr then c.dimDepth else 32768
        let d := s.mixes[m].dimGain
        let d' := if c.dimRamp = 0 then target
          else if d ≤ target then min target (d + c.dimRamp) else max target (d - c.dimRamp)
        t.mixes[m] = { s.mixes[m] with dimGain := d' } ∧
        p.mixes[m].headroom = c.headroom ∧ p.mixes[m].trim = s.mixes[m].trim ∧ p.mixes[m].lo = c.lo ∧
        p.mixes[m].hi = c.hi ∧
        ∃ bs : List Block, bs.length = s.routes[m].length ∧
          p.mixes[m].terms = (match c.base with
              | none => []
              | some n => [⟨t.audio.completed[n], c.baseLevel * d' / 32768⟩]) ++
            List.zipWith (fun (b : Block) (r : Route) => (⟨b, max r.fixedLevel r.talkLevel⟩ : Term)) bs s.routes[m] ∧
          ∀ (j : Nat) (b : Block) (r : Route), bs[j]? = some b → s.routes[m][j]? = some r →
            (∀ n : Fin 16, r.input = .loc n → b = t.audio.completed[n]) ∧
            (∀ k : PortNo, r.input = .field k → t.ports[k].state = .live → s.ports[k].state = .live → b = s.ports[k].completed) ∧
            (∀ k : PortNo, r.input = .field k → t.ports[k].state ≠ .live → b = Block.silence) ∧
            (∀ q, r.input = .remote q → b = match s.findListen q with
              | none => Block.silence
              | some k => ((s.listens[k].map fun e => e.playOne.1).getD Block.silence))) ∧
      (∀ k : Fin 32, t.listens[k] = s.listens[k].map fun e => e.playOne.2.1) ∧
      t.counters.conceal = Nat.repeat satInc
        ((List.finRange 32).countP fun k => (s.listens[k].map fun e => e.playOne.2.2) == some true) s.counters.conceal

/-- A listen entry's play at a pass: silence while EMPTY or PRIMING, else the block at its play sequence, or the concealment of a miss; the eighth miss in a row empties it (R152 to R154). -/
def Obligations.ListenEntryPlaysOneBlock : Prop :=
  ∀ e : ListenEntry,
    (e.state ≠ .playing → e.playOne = (Block.silence, e, false)) ∧
    (∀ p, e.state = .playing → e.play = some p → (e.buffer.map Stored.seq).Nodup →
      (∀ b ∈ e.buffer, b.seq = p → e.playOne = (b.samples,
        { e with buffer := e.buffer.erase b, last := b.samples, miss := 0, play := some (p + 1) }, false)) ∧
      ((∀ b ∈ e.buffer, b.seq ≠ p) →
        e.playOne.2.2 = true ∧
        (e.miss = 0 → ∀ n : Fin 48, 2 * e.playOne.1[n].toInt ≤ e.last[n].toInt ∧ e.last[n].toInt ≤ 2 * e.playOne.1[n].toInt + 1) ∧
        (0 < e.miss → e.playOne.1 = Block.silence) ∧
        (e.miss < 7 → e.playOne.2.1 =
          { e with conceal := satInc e.conceal, miss := e.miss + 1, play := some (p + 1) }) ∧
        (7 ≤ e.miss → e.playOne.2.1 =
          { e with
            conceal := satInc e.conceal, miss := 0, play := none, buffer := [], state := .empty
            last := Block.silence })))

/-- R26: the accumulated value is the exact sum of the products, whatever the order of the terms, between the two extremes, which are reached. -/
def Obligations.AccumulatedValueIsExact : Prop :=
  (∀ (terms : List Term) (n : Fin 48), terms.length ≤ 13 → (∀ t ∈ terms, t.weight ≤ 65535) →
    accumulate terms n = (terms.map fun t => t.block[n].toInt * (t.weight : Int)).sum ∧
    (∀ other, terms.Perm other → accumulate other n = accumulate terms n) ∧
    -7146716528640 ≤ accumulate terms n ∧ accumulate terms n ≤ 7146715676685 ∧
    (accumulate terms n).natAbs < 13 * 2 ^ 39 ∧ 13 * 2 ^ 39 < 2 ^ 43) ∧
  (∀ (t : Term) (n : Fin 48), t.weight ≤ 65535 →
    (t.block[n].toInt).natAbs ≤ 8388608 ∧ (t.block[n].toInt * (t.weight : Int)).natAbs < 2 ^ 39) ∧
  (∃ terms : List Term, terms.length = 13 ∧ (∀ t ∈ terms, t.weight = 65535) ∧ ∀ n, accumulate terms n = 7146715676685) ∧
  (∃ terms : List Term, terms.length = 13 ∧ (∀ t ∈ terms, t.weight = 65535) ∧ ∀ n, accumulate terms n = -7146716528640)

/-- The headroom shift, the trim and the range clip of a sample, the output block made of them sample by sample, and the counts of a mix (R25 to R30). -/
def Obligations.RoundingAndClipOfSample : Prop :=
  (∀ (a : Int) (h : Fin 4), headroomShift a h = (a + 2 ^ (14 - h.val)) / 2 ^ (15 - h.val)) ∧
  (∀ x : Sample, headroomShift (x.toInt * 32768) 0 = x.toInt) ∧
  (∀ v : Int, trimmed v 0 = v) ∧
  (∀ (v : Int) (k : Nat), k ≤ 7 → trimmed v k = (v * (32768 - 4096 * k) + 16384) / 32768 ∧
    (trimmed v k).natAbs ≤ v.natAbs) ∧
  (∀ (v : Int) (lo hi : Sample),
    (clipFlag v lo hi = .inside ↔ v ≤ hi.toInt ∧ lo.toInt ≤ v) ∧ (clipFlag v lo hi = .high ↔ hi.toInt < v ∧ lo.toInt ≤ v) ∧
    (clipFlag v lo hi = .low ↔ v ≤ hi.toInt ∧ v < lo.toInt) ∧ (clipFlag v lo hi = .wrong ↔ hi.toInt < v ∧ v < lo.toInt) ∧
    (clipFlag v lo hi = .inside → (clipped v lo hi).toInt = v) ∧
    (clipFlag v lo hi = .low → clipped v lo hi = lo) ∧
    (clipFlag v lo hi = .high ∨ clipFlag v lo hi = .wrong → clipped v lo hi = hi) ∧
    min lo.toInt hi.toInt ≤ (clipped v lo hi).toInt ∧ (clipped v lo hi).toInt ≤ max lo.toInt hi.toInt) ∧
  (∀ (p : PassMix) (n : Fin 48), (mixBlock p)[n] =
    clipped (trimmed (headroomShift ((p.terms.map fun x => x.block[n].toInt * (x.weight : Int)).sum) p.headroom) p.trim)
      p.lo p.hi) ∧
  (∀ (p : PassMix) (f : ClipFlag), clipCount p f = ((List.finRange 48).filter fun n => clipFlag
    (trimmed (headroomShift ((p.terms.map fun x => x.block[n].toInt * (x.weight : Int)).sum) p.headroom) p.trim)
      p.lo p.hi = f).length) ∧
  (∀ p : PassMix, clipCount p .inside + clipCount p .high + clipCount p .low + clipCount p .wrong = 48)

/-- The end of a pass: the K blocks reach their lines, the T blocks the outbound buffers of admitted ports, where the newest 96 samples stay and OVERRUN counts each buffer above 48; then each mix's counts, clean run and trim move with their PROTECT events in mix order (R31, R40 to R45, R182, R184). That nothing happens without a pass is the model's choice (log entry 4). -/
def Obligations.MixPassEndDelivers : Prop :=
  ∀ s : State,
    (s.audio.pass = none → exec .mixPassEnd s = .next s) ∧
    ∀ p, s.audio.pass = some p → ∃ t, exec .mixPassEnd s = .next t ∧
      t.audio = { s.audio with pass := none, delivered := t.audio.delivered } ∧
      (∀ n : Fin 16, t.audio.delivered[n] = some (mixBlock p.mixes[n.val])) ∧
      (∀ k : PortNo,
        let q := s.ports[k]
        if q.state = .settling ∨ q.state = .live ∨ q.state = .retraining then
          t.ports[k] = { q with
            outbound := q.outbound.drop (q.outbound.length - 48) ++ (mixBlock p.mixes[returnMix k]).toList }
        else t.ports[k] = q) ∧
      (∀ m : Mix,
        let high := clipCount p.mixes[m] .high
        let low := clipCount p.mixes[m] .low
        let wrong := clipCount p.mixes[m] .wrong
        let c := high + low + wrong
        let threshold := s.cfg.mixes[m].protect
        let st : MixState := { s.mixes[m] with high := high, low := low, wrong := wrong, clipped := decide (0 < c) }
        t.mixes[m] =
          if 0 < threshold ∧ threshold ≤ c then { st with trim := if st.trim < 7 then st.trim + 1 else st.trim, cleanRun := 0 }
          else if 0 < c then { st with cleanRun := 0 }
          else if st.cleanRun + 1 < 250 then { st with cleanRun := st.cleanRun + 1 }
          else { st with trim := st.trim - 1, cleanRun := 0 }) ∧
      t.events = (List.finRange 24).foldl (fun q m =>
        if t.mixes[m].trim = s.mixes[m].trim then q
        else q.push (.protect m (if s.mixes[m].trim < t.mixes[m].trim then .up else .down) t.mixes[m].trim
          (clipCount p.mixes[m] .high + clipCount p.mixes[m] .low + clipCount p.mixes[m] .wrong) p.number)) s.events ∧
      t.counters.overrun = Nat.repeat satInc ((List.finRange 8).countP fun k : PortNo =>
        decide (s.ports[k].state = .settling ∨ s.ports[k].state = .live ∨ s.ports[k].state = .retraining) &&
          decide (48 < s.ports[k].outbound.length)) s.counters.overrun ∧
      t = { s with
        audio := t.audio, mixes := t.mixes, ports := t.ports, events := t.events
        counters := { s.counters with overrun := t.counters.overrun } }

/--
Capture at a completion of an ACTIVE station: the queued bursts age, then each SENDING local line and LIVE port adds a
burst of the new block at the class of its send entry, in source order, the heads of a full queue leaving with DROP_OLD
raised for each (R116, R130 to R134). For a port that becomes LIVE at the same completion either holds (R131, R168).
The last-inserted records age, and clear at age 4, in an ACTIVE and in a SILENT station, which captures nothing (R131,
R139, R140).
-/
def Obligations.CompletionCapturesSendingSources : Prop :=
  ∀ (s : State) (x : Vector Sample 16),
    s.audio.current.length = 47 → s.audio.pass = none →
    let aged := fun l : List Burst => l.map fun b => { b with age := min 4 (b.age + 1) }
    let records := fun t : State => ∀ n : SourceNo, t.sched.last[n] = (s.sched.last[n].bind fun r =>
      if r.age < 3 then some { r with age := r.age + 1 } else none)
    (s.mode = .silent → ∃ t : State, exec (.localSample x) s = .next t ∧ records t ∧
      (∀ c : Cls, t.sched.queues[c] = aged s.sched.queues[c]) ∧ t.counters.dropOld = s.counters.dropOld) ∧
    (s.mode = .active → s.QueuesBounded →
      ∃ (t : State) (seen : PortNo → Bool), exec (.localSample x) s = .next t ∧ records t ∧
        (∀ k : PortNo, s.ports[k].state = .live → seen k = true) ∧
        (∀ k : PortNo, t.ports[k].state ≠ .live → seen k = false) ∧
        (let captured := fun c : Cls => (List.finRange 24).filterMap fun n : SourceNo =>
            if s.sendClass n = some c then
              if h : n.val < 16 then some (⟨n, c, s.audio.blockCounter + 1, t.audio.completed[n.val], 0⟩ : Burst)
              else if seen ⟨n.val - 16, by omega⟩ then
                some ⟨n, c, s.audio.blockCounter + 1, (s.ports[n.val - 16]'(by omega)).completed, 0⟩
              else none
            else none
          let all := fun c : Cls => aged s.sched.queues[c] ++ captured c
          (∀ c : Cls, t.sched.queues[c] = (all c).drop ((all c).length - 16)) ∧
          t.counters = { s.counters with
            dropOld := Nat.repeat satInc (((List.finRange 4).map fun c => (all c).length - 16).sum) s.counters.dropOld
            conceal := t.counters.conceal }) ∧
        (∀ n : SourceNo, ∀ c, s.sendClass n = some c ↔
          (∃ y ∈ s.sends[n], y.cls = c) ∧ ∀ y ∈ s.sends[n], c ≤ y.cls))

/-! ### The field ports -/

/-- FIELD-RESET: BAD_ARG above 7; DONE alone at a DISABLED port; a port outside the admitted states goes to IDLE with fault PORT_RESET and its FIELD event (R172, R173). -/
def Obligations.FieldResetIdlesPort : Prop :=
  ∀ s : State, s.mode ≠ .unconfigured →
    (∀ w : Word, 7 < w.toNat →
      exec (.fieldReset [w]) s = .next (s.respond 0x05 .badArg .none [])) ∧
    ∀ k : PortNo,
      let p := s.ports[k]
      (p.state = .disabled →
        exec (.fieldReset [word k.val]) s = .next (s.respond 0x05 .done .none [])) ∧
      (p.state = .idle ∨ p.state = .training ∨ p.state = .checking ∨ p.state = .holdoff →
        exec (.fieldReset [word k.val]) s = .next
          { s.respond 0x05 .done .none [] with
            ports := s.ports.set k { p with
              state := .idle, idResult := .notVerified, failures := 0, lastFault := .portReset
              stamps := [], codes := [], gapDue := none, codeDue := none, holdoffDue := none
              elastic := [], phaseIn := 0, lastIn := 0, progress := [], completed := Block.silence
              outbound := [], phaseOut := 0, lastOut := 0 }
            events := s.events.push
              (.field k p.state .idle .portReset .notVerified 0 p.interval s.audio.blockCounter) })

/--
Leaving an admitted state, by END, link silence, a retraining that breaks or fails its tests, or FIELD-RESET: the FIELD
event with its fault first of all events; then each talk on the port's return mix is removed with LAPSED DEST_DOWN, a
GRANTED one with its release and its INCOMING event (as LapseRemovesRecord states a removal); then the port's own talk
is released with its one TALK-END and its TALLY event (as KeyUpReleasesTalk states a release); then the port is IDLE
with cleared buffers (R62, R76, R163, R164, R168 to R174). That the clock is moved to the time of a timer is the model's
choice (log entry 3); that the reply of a removal comes last (log entry 14), and that the entry to IDLE also stops the
gap, code and holdoff timers (log entry 21), are its deductions.
-/
def Obligations.LeavingAdmittedStateEndsTalks : Prop :=
  ∀ (s : State) (k : PortNo),
    (∀ (i j : TalkNo) (x y : OutTalk), s.outTalks[i] = some x → s.outTalks[j] = some y →
      x.origin = .field k → y.origin = .field k → i = j) →
    let p := s.ports[k]
    let m := returnMix k
    let leaves := fun (c : Instr) (f : PortFault) (u : State) (answered : State → State) (silence : Option Nat) (n : Nat) =>
      let idle : Port := { p with
        state := .idle, idResult := .notVerified, failures := n, lastFault := f, silenceDue := silence
        stamps := [], codes := [], gapDue := none, codeDue := none, holdoffDue := none
        elastic := [], phaseIn := 0, lastIn := 0, progress := [], completed := Block.silence
        outbound := [], phaseOut := 0, lastOut := 0 }
      let told := ({ u with ports := s.ports.set k { p with silenceDue := silence } } : State).emit
        (.field k p.state .idle f .notVerified n p.interval s.audio.blockCounter)
      let cleared := s.talks[m].granted.foldl (State.removeGranted m .destDown .destDown)
        (s.talks[m].waiting.foldl (State.removeWaiting m .destDown) told)
      let gone := fun v : State => exec c s = .next (answered { v with ports := s.ports.set k idle })
      ((∀ (i : TalkNo) (x : OutTalk), s.outTalks[i] = some x → x.origin ≠ .field k) → gone cleared) ∧
      (∀ (i : TalkNo) (x : OutTalk), s.outTalks[i] = some x → x.origin = .field k → gone (cleared.releaseTalk i)) ∧
      ∃ t : State, exec c s = .next t ∧
        t.talks[m] = ⟨[], []⟩ ∧
        (∀ (i : TalkNo) (x : OutTalk), t.outTalks[i] = some x → x.origin ≠ .field k) ∧
        (∃ es : List Event, t.events = es.foldl EventQueue.push (s.events.push
          (.field k p.state .idle f .notVerified n p.interval s.audio.blockCounter))) ∧
        t = { answered u with
          ports := s.ports.set k idle, routes := t.routes, talks := t.talks, outTalks := t.outTalks
          listens := t.listens, sched := { s.sched with notes := t.sched.notes }, counters := t.counters
          events := t.events }
    (p.state = .settling ∨ p.state = .live →
      leaves (.endWord k) .ended s id (some (s.clock.now + 491520)) p.failures ∧
      ∀ due, p.silenceDue = some due →
        leaves (.linkSilenceExpiry k) .linkLost (s.reach due) id p.silenceDue p.failures) ∧
    (p.state = .retraining →
      (∀ (x : Sample) (i : Fin 16),
        ∀ c ∈ [Instr.codeWord k x, .sampleWord k x, .talkOnWord k, .talkOffWord k, .endWord k, .idleWord k i],
          leaves c .trainBroken s id (some (s.clock.now + 491520)) p.failures) ∧
      (∀ f, p.stamps.length = 16 → trainingFault (p.stamps ++ [s.clock.stampCounter]) = some f →
        leaves (.trainWord k) f s id (some (s.clock.now + 491520)) p.failures) ∧
      ∀ due, p.gapDue = some due → leaves (.gapTimerExpiry k) .trainTimeout (s.reach due) id p.silenceDue p.failures) ∧
    (p.state = .settling ∨ p.state = .live ∨ p.state = .retraining → s.mode ≠ .unconfigured →
      leaves (.fieldReset [word k.val]) .portReset s (fun v => v.respond 0x05 .done .none []) p.silenceDue 0)

/-- A word on a field link is the command its marker names, markers 7 to 15 being read as IDLE; the words that only restart the link silence timer in a state, those that break a training or a check, and the DISABLED port, which takes none (R161, R163, R165, R167, tables "Field word" and "Words by state"). That the command joins the end of the queue is the model's choice (log entry 1), and so is that bits 27 to 24, and the payload of a marker that has none, are not read (log entry 33). That a broken check discards its stamps and code words is the model's deduction (log entry 21). -/
def Obligations.WordsByStateOfPort : Prop :=
  ∀ (s : State) (k : PortNo) (x : Sample) (i : Fin 16),
    let p := s.ports[k]
    let silence := some (s.clock.now + 491520)
    let heard := (Host.Outcome.next { s with ports := s.ports.set k { p with silenceDue := silence } } :
      Host.Outcome State Fault Refusal)
    let broken := (Host.Outcome.next { s with
      ports := s.ports.set k { p with
        state := .idle, idResult := .notVerified, lastFault := .trainBroken, silenceDue := silence
        stamps := [], codes := [], gapDue := none, codeDue := none, holdoffDue := none
        elastic := [], phaseIn := 0, lastIn := 0, progress := [], completed := Block.silence
        outbound := [], phaseOut := 0, lastOut := 0 }
      events := s.events.push
        (.field k p.state .idle .trainBroken .notVerified p.failures p.interval s.audio.blockCounter) } :
      Host.Outcome State Fault Refusal)
    (∀ w : Word, let is := fun c : Instr => s.withFieldWord k w = { s with pending := s.pending ++ [c] }
      let marker := w.toNat / 268435456
      let payload : Sample := w.setWidth 24
      (marker = 0 → is (.idleWord k 0)) ∧ (marker = 1 → is (.sampleWord k payload)) ∧ (marker = 2 → is (.trainWord k)) ∧
      (marker = 3 → is (.codeWord k payload)) ∧ (marker = 4 → is (.talkOnWord k)) ∧ (marker = 5 → is (.talkOffWord k)) ∧
      (marker = 6 → is (.endWord k)) ∧ (∀ h : marker < 16, 7 ≤ marker → is (.idleWord k ⟨marker, h⟩))) ∧
    (p.state = .disabled →
      ∀ c ∈ [Instr.trainWord k, .codeWord k x, .sampleWord k x, .talkOnWord k, .talkOffWord k, .endWord k, .idleWord k i],
        exec c s = .next s) ∧
    (p.state = .idle →
      ∀ c ∈ [Instr.codeWord k x, .sampleWord k x, .talkOnWord k, .talkOffWord k, .endWord k, .idleWord k i],
        exec c s = heard) ∧
    (p.state = .training →
      ∀ c ∈ [Instr.codeWord k x, .sampleWord k x, .talkOnWord k, .talkOffWord k, .endWord k, .idleWord k i],
        exec c s = broken) ∧
    (p.state = .checking → exec (.idleWord k i) s = heard ∧
      ∀ c ∈ [Instr.trainWord k, .sampleWord k x, .talkOnWord k, .talkOffWord k, .endWord k], exec c s = broken) ∧
    (p.state = .holdoff →
      ∀ c ∈ [Instr.trainWord k, .codeWord k x, .sampleWord k x, .talkOnWord k, .talkOffWord k, .endWord k, .idleWord k i],
        exec c s = heard) ∧
    (p.state = .settling → ∀ c ∈ [Instr.codeWord k x, .talkOnWord k, .idleWord k i], exec c s = heard) ∧
    (p.state = .live → ∀ c ∈ [Instr.codeWord k x, .idleWord k i], exec c s = heard)

/--
TRAIN words: the first starts a training, or a retraining of a SETTLING or LIVE port; each further one before the
17th adds its stamp; the 17th completes it, to IDLE with the training's fault, to SETTLING, or to CHECKING where the
port has an access code; a retraining whose 17th stamp fails is in LeavingAdmittedStateEndsTalks (R162 to R164, R168,
R169, R174). That a training which fails its tests discards its stamps and code words at IDLE is the model's deduction
(log entry 21).
-/
def Obligations.TrainWordsTakeStamps : Prop :=
  ∀ (s : State) (k : PortNo),
    let p := s.ports[k]
    let silence := some (s.clock.now + 491520)
    let gap := some (s.clock.now + 245760)
    let goes := fun (q : Port) (f : PortFault) => exec (.trainWord k) s = .next { s with
      ports := s.ports.set k { q with silenceDue := silence }
      events := s.events.push (.field k p.state q.state f q.idResult q.failures q.interval s.audio.blockCounter) }
    (p.state = .idle →
      goes { p with state := .training, stamps := [s.clock.stampCounter], codes := [], gapDue := gap } .none) ∧
    (p.state = .settling →
      goes { p with state := .retraining, stamps := [s.clock.stampCounter], gapDue := gap } .none) ∧
    (p.state = .live →
      goes { p with state := .retraining, stamps := [s.clock.stampCounter], gapDue := gap, progress := [] } .none) ∧
    (p.state = .training ∨ p.state = .retraining → p.stamps.length < 16 →
      exec (.trainWord k) s = .next { s with ports := s.ports.set k { p with
        stamps := p.stamps ++ [s.clock.stampCounter], gapDue := gap, silenceDue := silence } }) ∧
    (p.stamps.length = 16 →
      let stamps := p.stamps ++ [s.clock.stampCounter]
      let i := trainedInterval stamps
      let q := { p with
        stamps := stamps, interval := some i, stagedIn := some (inboundStep i), stagedOut := some (outboundStep i)
        trained := some (inboundStep i), gapDue := none }
      let settled := { q with
        state := .settling, settled := 0, codeDue := none
        elastic := [], phaseIn := 0, lastIn := 0, progress := [], completed := Block.silence }
      (p.state = .training → ∀ f, trainingFault stamps = some f →
        goes { p with
          state := .idle, idResult := .notVerified, lastFault := f
          stamps := [], codes := [], gapDue := none, codeDue := none, holdoffDue := none
          elastic := [], phaseIn := 0, lastIn := 0, progress := [], completed := Block.silence
          outbound := [], phaseOut := 0, lastOut := 0 } f) ∧
      (p.state = .training → trainingFault stamps = none → p.access = 0 →
        goes { settled with idResult := .verified, failures := 0 } .none) ∧
      (p.state = .training → trainingFault stamps = none → p.access ≠ 0 →
        goes { q with state := .checking, codes := [], codeDue := some (s.clock.now + 1228800) } .none) ∧
      (p.state = .retraining → trainingFault stamps = none → goes settled .none))

/-- The intervals of seventeen stamps, the trained interval, the two tests in their order, and the two steps (R160, R164). -/
def Obligations.TrainingArithmetic : Prop :=
  (∀ stamps : List Stamp, stamps.length = 17 →
    let d := fun j => (stamps.getD (j + 1) 0 - stamps.getD j 0).toNat
    let i := (sMin stamps + sMax stamps + 1) / 2
    (∀ j < 8, sMin stamps ≤ d j) ∧ (∃ j < 8, sMin stamps = d j) ∧
    (∀ j < 16, 8 ≤ j → d j ≤ sMax stamps) ∧ (∃ j < 16, 8 ≤ j ∧ sMax stamps = d j) ∧
    trainedInterval stamps = i ∧
    (trainingFault stamps = some .trainRange ↔ i < 512 ∨ 3072 < i) ∧
    (trainingFault stamps = some .trainSpread ↔
      512 ≤ i ∧ i ≤ 3072 ∧ ((i / 16 : Nat) : Int) < (sMax stamps : Int) - sMin stamps) ∧
    (trainingFault stamps = none ↔
      512 ≤ i ∧ i ≤ 3072 ∧ (sMax stamps : Int) - sMin stamps ≤ ((i / 16 : Nat) : Int))) ∧
  (∀ i : Nat, 512 ≤ i → i ≤ 3072 → outboundStep i = 128 * i ∧
    inboundStep i * (2 * i) ≤ 2 * 33554432 + i ∧ 2 * 33554432 + i < (inboundStep i + 1) * (2 * i))

/-- CODE words in CHECKING: two are collected, the third decides between SETTLING, IDLE and HOLDOFF; and the gap, code and holdoff timers outside the admitted states (R163, R165 to R167, R173). That the clock is moved to the due time of a timer is the model's choice (log entry 3), and so is that the expiry of a stopped timer, or of the link silence timer outside SETTLING and LIVE, changes nothing (log entry 4). That every entry to IDLE discards the stamps and code words and stops the timers, and that the FIELD event of a wrong code shows NOT_VERIFIED, are its deductions (log entry 21). -/
def Obligations.CodeWordsAndTrainingTimers : Prop :=
  ∀ (s : State) (k : PortNo) (x : Sample),
    let p := s.ports[k]
    let goes := fun (c : Instr) (u : State) (q : Port) (f : PortFault) => exec c s = .next { u with
      ports := s.ports.set k q
      events := s.events.push (.field k p.state q.state f q.idResult q.failures q.interval s.audio.blockCounter) }
    let heard := { p with silenceDue := some (s.clock.now + 491520) }
    let idled := fun q : Port => { q with
      state := .idle, idResult := .notVerified
      stamps := [], codes := [], gapDue := none, codeDue := none, holdoffDue := none
      elastic := [], phaseIn := 0, lastIn := 0, progress := [], completed := Block.silence
      outbound := [], phaseOut := 0, lastOut := 0 }
    (p.state = .checking →
      (p.codes.length < 2 → exec (.codeWord k x) s = .next
        { s with ports := s.ports.set k { heard with codes := p.codes ++ [x.setWidth 16] } }) ∧
      (∀ a b, p.codes = [a, b] →
        (a ++ b ++ x.setWidth 16 = p.access → goes (.codeWord k x) s { heard with
          codes := [a, b, x.setWidth 16], idResult := .verified, failures := 0, state := .settling, settled := 0
          gapDue := none, codeDue := none
          elastic := [], phaseIn := 0, lastIn := 0, progress := [], completed := Block.silence } .none) ∧
        (a ++ b ++ x.setWidth 16 ≠ p.access → p.failures < 2 → goes (.codeWord k x) s
          { idled heard with failures := p.failures + 1, lastFault := .codeMismatch } .codeMismatch) ∧
        (a ++ b ++ x.setWidth 16 ≠ p.access → p.failures = 2 → goes (.codeWord k x) s { heard with
          codes := [a, b, x.setWidth 16], idResult := .mismatch, failures := 3, lastFault := .codeMismatch
          state := .holdoff, codeDue := none, holdoffDue := some (s.clock.now + 49152000) } .codeMismatch)) ∧
      (∀ due, p.codeDue = some due → goes (.codeTimerExpiry k) (s.reach due)
        { idled p with lastFault := .codeTimeout } .codeTimeout)) ∧
    (p.state = .training → ∀ due, p.gapDue = some due → goes (.gapTimerExpiry k)
      (s.reach due) { idled p with lastFault := .trainTimeout } .trainTimeout) ∧
    (p.state = .holdoff → ∀ due, p.holdoffDue = some due → goes (.holdoffExpiry k)
      (s.reach due) { idled p with failures := 0 } .none) ∧
    (p.gapDue = none → exec (.gapTimerExpiry k) s = .next s) ∧
    (p.codeDue = none → exec (.codeTimerExpiry k) s = .next s) ∧
    (p.holdoffDue = none → exec (.holdoffExpiry k) s = .next s) ∧
    (p.state ≠ .settling → p.state ≠ .live → exec (.linkSilenceExpiry k) s = .next s)

/--
The converters of a LIVE port: samples fill the elastic buffer up to 256; a sample moment interpolates between its
two oldest samples and consumes by the carry of the phase, or repeats the last sample with UNDERRUN; a word request
does the same from the outbound buffer and sends a SAMPLE word, an IDLE word outside LIVE (R178 to R181, R183, R184).
That the clock is moved to the sample moment is the model's choice (log entry 3), and so is that a sample moment of a
port outside LIVE leaves it alone (log entry 4).
-/
def Obligations.ConvertersOfPort : Prop :=
  ∀ (s : State) (k : PortNo) (x : Sample),
    let p := s.ports[k]
    let heard := { p with silenceDue := some (s.clock.now + 491520) }
    let at' := s.reach (s.audio.completedAt + 256 + 512 * p.progress.length)
    let made := fun (q : Port) (y : Sample) => if p.progress.length < 47 then { q with progress := p.progress ++ [y] }
      else { q with progress := [], completed := Vector.ofFn fun n => (p.progress ++ [y]).getD n.val 0 }
    let between := fun (a b : Sample) (f : Nat) => a.toInt + ((b.toInt - a.toInt) * (f : Int) + 32768) / 65536
    (p.state = .settling ∨ p.state = .live →
      (p.elastic.length < 256 → exec (.sampleWord k x) s = .next
        { s with ports := s.ports.set k { heard with elastic := p.elastic ++ [x] } }) ∧
      (256 ≤ p.elastic.length → exec (.sampleWord k x) s = .next
        { s with
          ports := s.ports.set k heard
          counters := { s.counters with overrun := satInc s.counters.overrun } })) ∧
    (p.state = .live →
      (∀ a b rest f, p.elastic = a :: b :: rest → p.activeIn = some f → p.phaseIn < 65536 →
        ∃ y : Sample, y.toInt = between a b p.phaseIn ∧
          exec (.inboundSampleMoment k) s = .next { at' with ports := s.ports.set k { made p y with
            lastIn := y, phaseIn := (p.phaseIn + f) % 65536, elastic := p.elastic.drop ((p.phaseIn + f) / 65536) } }) ∧
      (p.elastic.length < 2 → exec (.inboundSampleMoment k) s = .next
        { at' with
          ports := s.ports.set k (made p p.lastIn)
          counters := { s.counters with underrun := satInc s.counters.underrun } }) ∧
      (∀ a b rest g, p.outbound = a :: b :: rest → p.activeOut = some g → p.phaseOut < 65536 →
        ∃ y : Sample, y.toInt = between a b p.phaseOut ∧
          exec (.outboundWordRequest k) s = .next { s with ports := s.ports.set k { p with
            sent := some (0x10#8 ++ y), lastOut := y, phaseOut := (p.phaseOut + g) % 65536
            outbound := p.outbound.drop ((p.phaseOut + g) / 65536) } }) ∧
      (p.outbound.length < 2 → exec (.outboundWordRequest k) s = .next
        { s with
          ports := s.ports.set k { p with sent := some (0x10#8 ++ p.lastOut) }
          counters := { s.counters with underrun := satInc s.counters.underrun } })) ∧
    (p.state ≠ .live → exec (.inboundSampleMoment k) s = .next s ∧
      exec (.outboundWordRequest k) s = .next { s with ports := s.ports.set k { p with sent := some 0 } })

/-- TALK_ON of a LIVE port creates a C2 interrupt talk of its field source for its target, unless one exists or none can be made, and its TALK goes to a peer as a note, to the own arbiter directly, or to both for a group of all stations; TALK_OFF of a SETTLING or LIVE port releases it in the same way (R72, R73, R76). That a TALK_ON of a port with a talk is not counted even where all 32 talk numbers are held is the model's choice (log entry 34). -/
def Obligations.FieldTalkWordsActOnTalker : Prop :=
  ∀ (s : State) (k : PortNo) (own : Station), s.cfg.number = some own →
    let p := s.ports[k]
    let heard := { s with ports := s.ports.set k { p with silenceDue := some (s.clock.now + 491520) } }
    let ignored := (Host.Outcome.next { heard with
      counters := { s.counters with talkerIgnored := satInc s.counters.talkerIgnored } } :
      Host.Outcome State Fault Refusal)
    let source : SourceNo := ⟨16 + k.val, by omega⟩
    let frame := fun t : State => t = { heard with
      routes := t.routes, talks := t.talks, outTalks := t.outTalks, listens := t.listens
      sched := { s.sched with notes := t.sched.notes }, counters := t.counters, events := t.events }
    (p.state = .live →
      (∀ (n : TalkNo) (x : OutTalk), s.outTalks[n] = some x → x.origin = .field k → exec (.talkOnWord k) s = .next heard) ∧
      ((∀ (n : TalkNo) (x : OutTalk), s.outTalks[n] = some x → x.origin ≠ .field k) → ∀ g, p.target = some g →
        (g.station.val = 63 ∧ g.kind = .mix → exec (.talkOnWord k) s = ignored) ∧
        ((∀ n : TalkNo, s.outTalks[n] ≠ none) → exec (.talkOnWord k) s = ignored) ∧
        (∀ n : TalkNo, g.station.val ≠ 63 ∨ g.kind = .group → s.outTalks[n] = none → (∀ j < n, s.outTalks[j] ≠ none) →
          (∃ t x, exec (.talkOnWord k) s = .next t ∧ t.outTalks[n] = some x ∧ x.source = source ∧ x.target = g ∧
            x.cls = 2 ∧ x.intr = true ∧ x.origin = .field k ∧ x.created = s.clock.now ∧
            (∃ es : List Event,
              t.events = es.foldl EventQueue.push (s.events.push (.tally n (.field k) .pending false))) ∧ frame t) ∧
          (let made : State := { heard with
              outTalks := s.outTalks.set n (some ⟨source, g, 2, true, .field k, [], 0, .pending, s.clock.now, false,
                s.clock.now + 1228800, false⟩)
              events := s.events.push (.tally n (.field k) .pending false) }
            let q : TalkRequest := ⟨own, n, ⟨own, ⟨16 + k.val, by omega⟩⟩, 2, true⟩
            let note : Note := ⟨g.station, .talk n q.source 2 true g.kind g.value⟩
            (g.station.val ≠ 63 → g.station ≠ own → exec (.talkOnWord k) s = .next (made.hand note)) ∧
            (own.val ≠ 63 → g.station = own →
              exec (.talkOnWord k) s = .next (made.takeTalk false q g.kind g.value)) ∧
            (own.val ≠ 63 → g.station.val = 63 →
              exec (.talkOnWord k) s = .next ((made.takeTalk true q g.kind g.value).hand note)))))) ∧
    (p.state = .settling ∨ p.state = .live →
      ((∀ (n : TalkNo) (x : OutTalk), s.outTalks[n] = some x → x.origin ≠ .field k) →
        exec (.talkOffWord k) s = .next heard) ∧
      (∀ (n : TalkNo) (x : OutTalk), s.outTalks[n] = some x → x.origin = .field k →
        (∀ (j : TalkNo) (y : OutTalk), s.outTalks[j] = some y → y.origin = .field k → j = n) →
        (∃ t q su, exec (.talkOffWord k) s = .next t ∧ t.outTalks[n] = none ∧
          t.events = EventQueue.push q (.tally n (.field k) su true) ∧ frame t) ∧
        (let taken := heard.takeTalkEnd own n
          let summary := ((taken.outTalks[n]).map OutTalk.summary).getD x.summary
          let note : Note := ⟨x.target.station, .talkEnd n⟩
          let released := fun (u : State) (su : Summary) => exec (.talkOffWord k) s = .next
            { u with
              outTalks := u.outTalks.set n none
              events := u.events.push (.tally n (.field k) su true) }
          (x.target.station.val ≠ 63 → x.target.station ≠ own → released (heard.hand note) x.summary) ∧
          (own.val ≠ 63 → x.target.station = own → released taken summary) ∧
          (own.val ≠ 63 → x.target.station.val = 63 → released (taken.hand note) summary))))

/-! ### The ring interface -/

/-- Loss and return of alignment, a message cut short, and the ring status with its RING events (R85 to R87, R95). At DOWN ring-out has let out what left within the 10 µs, the rest of the buffer is discarded, and an insertion in flight stays. The model's choices: 10 µs is over at the 246th count and the clock is moved there, and 1 ms later to UP (log entry 3); an event whose condition does not hold changes nothing (log entry 4); MESSAGE_CUT_SHORT is the idle symbol or the loss that cuts (log entry 10). That a burst cut before its word 1 adds nothing to PARTIAL is its deduction (log entry 24). -/
def Obligations.AlignmentAndRingStatus : Prop :=
  ∀ s : State,
    let held := s.ring.insertion.isSome = true ∨ s.ring.buffer ≠ [] ∨ s.ring.gapOwed = true
    let lost := { s.ring with aligned := false, alignedAt := s.clock.now }
    (s.ring.aligned = false → exec .alignmentLoss s = .next s) ∧
    (s.ring.aligned = true → s.mode = .unconfigured →
      exec .alignmentLoss s = .next { s with ring := { lost with out := .lost } }) ∧
    (s.ring.aligned = true → s.mode ≠ .unconfigured →
      (∀ cs, (∀ m, s.ring.framing ≠ .message m) ∧ cs = s.counters ∨
        (∃ m, s.ring.framing = .message m ∧ m.collect ≠ .copy ∧ m.collect ≠ .checkCopy) ∧ cs = s.counters ∨
        (∃ m, s.ring.framing = .message m ∧ (m.collect = .copy ∨ m.collect = .checkCopy)) ∧
          cs = { s.counters with partialCopies := satInc s.counters.partialCopies } →
        (¬ held → exec .alignmentLoss s = .next
          { s with ring := { lost with framing := .hunting, out := .idle }, counters := cs }) ∧
        (held → (∀ m, s.ring.framing = .message m → m.path ≠ .buffered) → exec .alignmentLoss s = .next
          { s with ring := { lost with framing := .hunting }, counters := cs }) ∧
        (held → ∀ m, s.ring.framing = .message m → m.path = .buffered →
          (s.ring.buffer = [] → exec .alignmentLoss s = .next
            { s with ring := { lost with framing := .hunting, gapOwed := true }, counters := cs }) ∧
          (∀ pre h, s.ring.buffer = pre ++ [h] → exec .alignmentLoss s = .next
            { s with
              ring := { lost with framing := .hunting, buffer := pre ++ [{ h with ends := true }] }
              counters := cs })))) ∧
    (s.ring.aligned = true → exec .alignmentRegained s = .next s) ∧
    (s.ring.aligned = false → exec .alignmentRegained s = .next
      { s with ring := { s.ring with aligned := true, alignedAt := s.clock.now, framing := .hunting } }) ∧
    ((∀ m, s.ring.framing ≠ .message m) → ∀ b, exec (.messageCutShort b) s = .next s) ∧
    (∀ m, s.ring.framing = .message m → exec (.messageCutShort false) s = exec .alignmentLoss s) ∧
    (s.ring.aligned = false → s.ring.status = .up → exec .ringDown s = .next
      { s.reach (s.ring.alignedAt + 246) with
        ring := { (s.reach (s.ring.alignedAt + 246)).ring with
          status := .down, framing := .hunting, buffer := [], gapOwed := false
          out := if s.mode ≠ .unconfigured ∧ s.ring.insertion.isNone then .idle
            else (s.reach (s.ring.alignedAt + 246)).ring.out }
        events := s.events.push (.ring .down s.audio.blockCounter none) }) ∧
    (s.ring.aligned = true ∨ s.ring.status = .down → exec .ringDown s = .next s) ∧
    (s.ring.aligned = true → s.ring.status = .down → exec .ringUp s = .next
      { s.reach (s.ring.alignedAt + 24576) with
        ring := { s.ring with status := .up, framing := .hunting }
        events := s.events.push (.ring .up s.audio.blockCounter none) }) ∧
    (s.ring.aligned = false ∨ s.ring.status = .up → exec .ringUp s = .next s)

/--
A data word between messages at an UP ring interface is a header: bad by its length, stripped by its origin or its hop
count, or forwarded with its hop count one higher, cut through or into the insertion buffer, and selected for a copy
(R84, R90 to R93, R98). That ring-out emits one symbol at each arrival is the model's choice (log entry 10); that a
header meeting 64 held words is cut whole, with one PARTIAL, its deduction (log entry 11).
-/
def Obligations.HeadersAreClassified : Prop :=
  ∀ (s : State) (w : Word) (own : Station), s.ring.aligned = true → s.mode ≠ .unconfigured → s.ring.status = .up →
    s.ring.framing = .between → s.cfg.number = some own →
    let length := bits w 13 6
    let held := s.ring.insertion.isSome = true ∨ s.ring.buffer ≠ [] ∨ s.ring.gapOwed = true
    let opened : Path → Collect → Ring := fun p c => { s.ring with framing := .message ⟨length - 1, p, c, [w]⟩ }
    let c := if w.msb then (if bits w 4 6 = 63 ∨ bits w 4 6 = own.val then Collect.copy else .no) else .undecided
    let taken := exec (.messageHeader w) s
    (length < 3 ∨ 51 < length → taken = .next
      { s with
        ring := ({ s.ring with framing := .badHeader } : Ring).emit .idle
        counters := { s.counters with check := satInc s.counters.check } }) ∧
    (3 ≤ length → length ≤ 51 →
      (bits w 19 6 = own.val → taken = .next
        { s with ring := (opened .strip (if w.msb ∧ bits w 10 3 = 0 then .checkCopy else .no)).emit .idle }) ∧
      (bits w 19 6 ≠ own.val → 62 ≤ bits w 25 6 → taken = .next { s with ring := (opened .strip .no).emit .idle }) ∧
      (bits w 19 6 ≠ own.val → bits w 25 6 < 62 →
        (¬ held → taken = .next { s with ring := { opened .cutThrough c with out := .data (w + 0x02000000#32) } }) ∧
        (held → s.ring.buffer.length < 64 → taken = .next
          { s with ring := ({ opened .buffered c with
            buffer := s.ring.buffer ++ [⟨w + 0x02000000#32, false⟩] } : Ring).emit .idle }) ∧
        (held → 64 ≤ s.ring.buffer.length → taken = .next
          { s with
            ring := (opened .cutOff c).emit .idle
            counters := { s.counters with partialCopies := satInc s.counters.partialCopies } })))

/--
Words and idle symbols on ring-in otherwise: the closed bypass and the DOWN interface, the words of a message in
arrival on their path, the selection of a burst at its word 1, the completed copy with its check, and the idle symbol
that ends or cuts a message (R84, R86, R87, R90 to R95, R98). The model's own: a completed good copy waits in `handOff`
(log entry 9), both word commands act alike (log entry 10), a word or an idle symbol given while ring-in has lost
alignment changes nothing (log entry 4), a word meeting 64 held words is not stored, though ring-out emits one in the
same word time (log entry 11), and a burst cut before its word 1 adds nothing to PARTIAL (log entry 24).
-/
def Obligations.MessageWordsAreForwarded : Prop :=
  (∀ (s : State) (w : Word),
    exec (.messageWordArrival w) s = exec (.messageHeader w) s ∧
    (s.ring.aligned = false → exec (.messageHeader w) s = .next s ∧ exec .ringInIdleSymbol s = .next s) ∧
    (s.ring.aligned = true → s.mode = .unconfigured →
      exec (.messageHeader w) s = .next { s with ring := { s.ring with out := .data w } } ∧
      exec .ringInIdleSymbol s = .next { s with ring := { s.ring with out := .idle } }) ∧
    (s.ring.aligned = true → s.mode ≠ .unconfigured →
      (s.ring.status = .down → exec (.messageHeader w) s = .next { s with ring := s.ring.emit .idle } ∧
        exec .ringInIdleSymbol s = .next { s with ring := s.ring.emit .idle }) ∧
      (s.ring.status = .up →
        (s.ring.framing = .hunting ∨ s.ring.framing = .badHeader →
          exec (.messageHeader w) s = .next { s with ring := s.ring.emit .idle }) ∧
        ((∀ m, s.ring.framing ≠ .message m) →
          exec .ringInIdleSymbol s = .next { s with ring := ({ s.ring with framing := .between } : Ring).emit .idle }) ∧
        ∀ m : Arrival, s.ring.framing = .message m →
          (∀ x ∈ [Instr.ringInIdleSymbol, .messageCutShort true], exec x s = .next { s with
            ring := ({ (if m.path = .buffered then s.ring.endBuffered else s.ring) with framing := .between } : Ring).emit .idle
            counters := if m.collect = .copy ∨ m.collect = .checkCopy then
              { s.counters with partialCopies := satInc s.counters.partialCopies } else s.counters }) ∧
          ∀ c : Collect, (m.collect ≠ .undecided → c = m.collect) →
            (m.collect = .undecided → c = .copy ∨ c = .no) →
            (m.collect = .undecided → (c = .copy ↔ ∃ (k : Fin 32) (e : ListenEntry), s.listens[k] = some e ∧
              e.source.station = originOf (m.words.getD 0 0) ∧ e.source.index.val = bits w 27 5)) →
            let ws := m.words ++ [w]
            let goes := fun (r : Ring) (p : Path) (cs : Counters) => exec (.messageWordArrival w) s = .next
              { s with ring := { r with framing := .message ⟨m.left - 1, p, c, ws⟩ }, counters := cs }
            (1 < m.left →
              (m.path = .strip ∨ m.path = .cutOff → goes (s.ring.emit .idle) m.path s.counters) ∧
              (m.path = .cutThrough → goes (s.ring.emit (.data w)) .cutThrough s.counters) ∧
              (m.path = .buffered → s.ring.buffer.length < 64 →
                goes (({ s.ring with buffer := s.ring.buffer ++ [⟨w, false⟩] } : Ring).emit .idle) .buffered s.counters) ∧
              (m.path = .buffered → 64 ≤ s.ring.buffer.length → goes (s.ring.endBuffered.emit .idle) .cutOff
                { s.counters with partialCopies := satInc s.counters.partialCopies })) ∧
            (m.left ≤ 1 →
              let full := decide (64 ≤ s.ring.buffer.length)
              let r : Ring := match m.path with
                | .strip => s.ring.emit .idle
                | .cutOff => s.ring.emit .idle
                | .cutThrough => s.ring.emit (.data w)
                | .buffered => if full then s.ring.endBuffered.emit .idle
                  else ({ s.ring with buffer := s.ring.buffer ++ [⟨w, true⟩] } : Ring).emit .idle
              let cs := if m.path = .buffered ∧ full then
                { s.counters with partialCopies := satInc s.counters.partialCopies } else s.counters
              let ends := fun (hand : List Instr) (cs : Counters) => exec (.messageWordArrival w) s = .next
                { s with ring := { r with framing := .between, handOff := s.ring.handOff ++ hand }, counters := cs }
              (c = .no → ends [] cs) ∧
              (c = .copy ∨ c = .checkCopy → copyGood ws = false →
                ends [] { cs with check := satInc cs.check }) ∧
              (c = .copy → copyGood ws = true → ∀ i, copyCommand ws = some i → ends [i] cs) ∧
              (c = .copy → copyGood ws = true → copyCommand ws = none →
                ends [] { cs with ringIgnored := satInc cs.ringIgnored }) ∧
              (c = .checkCopy → copyGood ws = true →
                ends [.presenceCheckCopy true (BitVec.ofNat 16 (bits (ws.getD 1 0) 16 16))] cs))))) ∧
  (∀ r : Ring, (r.buffer = [] → r.endBuffered = { r with gapOwed := true }) ∧
    ∀ pre h, r.buffer = pre ++ [h] → r.endBuffered = { r with buffer := pre ++ [{ h with ends := true }] })

/--
Ring-out carries one symbol a word time: the insertion's next, the idle symbol owed, the next buffered word, or what
passes through. An insertion begins at an idle ring-out of an ACTIVE, UP station with the head note, or else with the
first burst, class queue by class queue, that is neither LATE_TX nor STALE, those before it being discarded and
counted; it ends with the scheduler told, and the buffer's last word leaves (R92, R96 to R98, R136 to R139). The model's
choices: INSERTION_START emits nothing itself, and at INSERTION_END and INSERTION_BUFFER_EMPTY the symbols that had not
left yet leave first, as `swept` shows (log entry 10); without their condition the three change nothing (log entry 4), nor
does INSERTION_BUFFER_EMPTY while a message is still being appended to the buffer (log entry 10).
-/
def Obligations.InsertionsBeginAndEnd : Prop :=
  (∀ (r : Ring) (x : Symbol),
    (r.insertion = none → r.gapOwed = false → r.buffer = [] → r.emit x = { r with out := x }) ∧
    (r.insertion = none → r.gapOwed = true → r.emit x = { r with out := .idle, gapOwed := false }) ∧
    (∀ h hs, r.insertion = none → r.gapOwed = false → r.buffer = h :: hs →
      r.emit x = { r with out := .data h.word, buffer := hs, gapOwed := h.ends }) ∧
    (∀ m y ys, r.insertion = some ⟨m, y :: ys⟩ → r.emit x = { r with out := y, insertion := some ⟨m, ys⟩ }) ∧
    (∀ m, r.insertion = some ⟨m, []⟩ → r.emit x = { r with out := .idle })) ∧
  (∀ (s : State) (own : Station), s.cfg.number = some own →
    let late := fun x : Burst => 4 ≤ x.age
    let stale := fun x : Burst => x.age < 4 ∧ (s.sched.last[x.source].map fun r => decide (serialDiff x.seq r.seq ≤ 0)) = some true
    let counted := fun gone : List Burst => { s.counters with
      lateTx := Nat.repeat satInc (gone.countP fun x => decide (late x)) s.counters.lateTx
      stale := Nat.repeat satInc (gone.countP fun x => decide (stale x)) s.counters.stale }
    let begins := fun (q : Scheduler) (m : Message) (cs : Counters) => exec .insertionStart s = .next { s with
      sched := q, counters := cs, ring := { s.ring with insertion := some ⟨m, (m.words own).map Symbol.data ++ [.idle, .idle]⟩ } }
    (s.mode ≠ .active ∨ s.ring.status = .down ∨ s.ring.insertion.isSome ∨ s.ring.buffer ≠ [] ∨ s.ring.gapOwed = true ∨
      s.ring.out ≠ .idle → exec .insertionStart s = .next s) ∧
    (s.mode = .active → s.ring.status = .up → s.ring.insertion = none → s.ring.buffer = [] → s.ring.gapOwed = false →
      s.ring.out = .idle →
      (∀ n ns, s.sched.notes = n :: ns → begins { s.sched with notes := ns } (.note n) s.counters) ∧
      (s.sched.notes = [] → (∀ c : Cls, s.sched.queues[c] = []) → exec .insertionStart s = .next s) ∧
      (s.sched.notes = [] → (∀ c : Cls, ∀ x ∈ s.sched.queues[c], late x ∨ stale x) → exec .insertionStart s = .next
        { s with
          sched := { s.sched with queues := Vector.replicate 4 [] }
          counters := counted ((List.finRange 4).flatMap fun c => s.sched.queues[c]) }) ∧
      (∀ (c : Cls) (pre : List Burst) (b : Burst) (post : List Burst), s.sched.notes = [] →
        s.sched.queues[c] = pre ++ b :: post → (∀ d < c, ∀ x ∈ s.sched.queues[d], late x ∨ stale x) →
        (∀ x ∈ pre, late x ∨ stale x) → ¬ late b → ¬ stale b →
        begins { s.sched with queues := Vector.ofFn fun d => if d < c then [] else if d = c then post else s.sched.queues[d] }
          (.burst b) (counted ((((List.finRange 4).filter fun d => d < c).flatMap fun d => s.sched.queues[d]) ++ pre))))) ∧
  (∀ s : State,
    (s.ring.insertion = none → exec .insertionEnd s = .next s) ∧
    (∀ n l, s.ring.insertion = some ⟨.note n, l⟩ →
      exec .insertionEnd s = .next { s with ring := { s.ring with insertion := none, out := .idle, swept := l } }) ∧
    (∀ b l, s.ring.insertion = some ⟨.burst b, l⟩ → exec .insertionEnd s = .next
      { s with
        ring := { s.ring with insertion := none, out := .idle, swept := l }
        sched := { s.sched with last := s.sched.last.set b.source (some ⟨b.seq, b.age⟩) } }) ∧
    (s.ring.insertion = none → s.ring.buffer ≠ [] ∨ s.ring.gapOwed = true →
      (∀ m, s.ring.framing = .message m → m.path ≠ .buffered) → exec .insertionBufferEmpty s = .next
        { s with ring := { s.ring with
          buffer := [], gapOwed := false, out := .idle
          swept := (if s.ring.gapOwed then [Symbol.idle] else []) ++
            s.ring.buffer.flatMap fun h => if h.ends then [Symbol.data h.word, Symbol.idle] else [Symbol.data h.word] } }) ∧
    (s.ring.insertion.isSome = true ∨ (s.ring.buffer = [] ∧ s.ring.gapOwed = false) →
      exec .insertionBufferEmpty s = .next s) ∧
    (∀ m, s.ring.framing = .message m → m.path = .buffered → exec .insertionBufferEmpty s = .next s))

/--
A message read back: the copy of a note or burst inserted by a station, at any hop count of its header, is good, has
the length its header gives, and is the command with the message's own fields (R94, R97 and "Word layouts").
-/
def Obligations.InsertedMessagesReadBack : Prop :=
  ∀ (own target : Station) (hop : Fin 64),
    let read := fun (ws : List Word) (i : Instr) =>
      let copy := withHop (ws.getD 0 0) hop.val :: ws.drop 1
      copyGood copy = true ∧ lengthOf (ws.getD 0 0) = ws.length ∧ copyCommand copy = some i
    (∀ stamp l d, read (Note.words own ⟨target, .presence stamp l d⟩) (.presence true own target hop stamp l d)) ∧
    (∀ (n : SourceNo) c, read (Note.words own ⟨target, .join n c⟩) (.join true own target ⟨n.val, by omega⟩ c)) ∧
    (∀ n : SourceNo, read (Note.words own ⟨target, .leave n⟩) (.leave true own target ⟨n.val, by omega⟩)) ∧
    (∀ n src c f kind v, read (Note.words own ⟨target, .talk n src c f kind v⟩) (.talk true own target n src c f kind v)) ∧
    (∀ n, read (Note.words own ⟨target, .talkEnd n⟩) (.talkEnd true own target n)) ∧
    (∀ n m a r, ∃ (x : Fin 8) (y : Fin 16), TalkAnswer.ofCode x = some a ∧ Reason.ofCode y = some r ∧
      read (Note.words own ⟨target, .talkState n m a r⟩) (.talkState true own target n m x y)) ∧
    (∀ b : Burst, read (b.words own) (.burst true own ⟨b.source.val, by omega⟩ b.cls b.seq b.samples))

/-! ### Copies and their owners -/

/-- Copies: a good one reaches its owner if it is the oldest that waits, or if none waits, and it changes nothing behind another. Copies that reach no owner: none is taken while the ring is DOWN or the station UNCONFIGURED, a message of the own number or for another station is not copied, a failed check counts in CHECK, a note that does not suit target 63 is ignored (R90, R93, R94, R99, R100). How a command of a copy stands for a copy, and that one behind another that waits changes nothing, is the model's choice (log entry 9), and that one of a copy that could not have been taken changes nothing its deduction (log entry 25). -/
def Obligations.CopiesThatReachNoOwner : Prop :=
  ∀ (s : State) (o target : Station) (i n m v : Fin 32) (c : Cls) (q : Seq) (b : Block) (hop : Fin 64)
    (l d : BitVec 8) (src : SourceAddr) (f : Bool) (kind : TargetKind) (st : Fin 8) (re : Fin 16) (good : Bool),
    let notes := fun good : Bool => [Instr.presence good o target hop q l d, .join good o target i c,
      .leave good o target i, .talk good o target n src c f kind v, .talkEnd good o target n,
      .talkState good o target n m st re]
    (s.mode = .unconfigured ∨ s.ring.status = .down →
      ∀ x ∈ notes good ++ [.burst good o i c q b, .presenceCheckCopy good q], exec x s = .next s) ∧
    (s.cfg.number = some o → ∀ x ∈ notes good ++ [.burst good o i c q b], exec x s = .next s) ∧
    (target.val ≠ 63 → s.cfg.number ≠ some target → ∀ x ∈ notes good, exec x s = .next s) ∧
    (62 ≤ hop.val → exec (.presence good o target hop q l d) s = .next s) ∧
    (s.mode ≠ .unconfigured → s.ring.status = .up → s.cfg.number ≠ some o → target.val = 63 ∨ s.cfg.number = some target → hop.val < 62 →
      (∀ x ∈ notes false ++ [.burst false o i c q b, .presenceCheckCopy false q], exec x s = .next
        { s with counters := { s.counters with check := satInc s.counters.check } }) ∧
      (target.val = 63 → s.ring.handOff = [] →
        ∀ x ∈ [Instr.join true o target i c, .leave true o target i, .talkState true o target n m st re],
          exec x s = .next { s with counters := { s.counters with ringIgnored := satInc s.counters.ringIgnored } })) ∧
    (let inOrder := fun (x : Instr) (owner : State → State) =>
        (s.ring.handOff = [] → exec x s = .next (owner s)) ∧
        (∀ rest, s.ring.handOff = x :: rest → exec x s = .next (owner { s with ring := { s.ring with handOff := rest } })) ∧
        (∀ y rest, s.ring.handOff = y :: rest → y ≠ x → exec x s = .next s)
      let ownOnly := fun (owner : State → State) (u : State) => if target.val = 63 then
        { u with counters := { u.counters with ringIgnored := satInc u.counters.ringIgnored } } else owner u
      s.mode ≠ .unconfigured → s.ring.status = .up →
      inOrder (.presenceCheckCopy true q) (fun u => if u.cfg.startStamp = some q then u else u.duplicate q) ∧
      (s.cfg.number ≠ some o → inOrder (.burst true o i c q b) (fun u => u.takeBurst o i q b) ∧
        (target.val = 63 ∨ s.cfg.number = some target →
          (hop.val < 62 → inOrder (.presence true o target hop q l d) (fun u => u.takePresence o hop q l d)) ∧
          inOrder (.join true o target i c) (ownOnly fun u => u.takeJoin o i c) ∧
          inOrder (.leave true o target i) (ownOnly fun u => u.takeLeave o i) ∧
          inOrder (.talk true o target n src c f kind v) (fun u => u.takeTalk (target.val == 63) ⟨o, n, src, c, f⟩ kind v) ∧
          inOrder (.talkEnd true o target n) (fun u => u.takeTalkEnd o n) ∧
          inOrder (.talkState true o target n m st re) (ownOnly fun u => u.takeTalkState o n m st re))))

/-- A burst reaches the entry of its source: primes an EMPTY one, or is late, a duplicate, stored, or a RESYNC by its serial difference from the play sequence; without an entry nothing happens (R148 to R150, R157). -/
def Obligations.BurstReachesListenEntry : Prop :=
  ∀ (s : State) (o own : Station) (i : Fin 32) (c : Cls) (q : Seq) (b : Block),
    s.mode ≠ .unconfigured → s.ring.status = .up → s.cfg.number = some own → o ≠ own → s.ring.handOff = [] →
    let arrives := exec (.burst true o i c q b) s
    let target := s.cfg.jitterTarget
    ((∀ (k : Fin 32) (e : ListenEntry), s.listens[k] = some e → e.source.station = o → e.source.index.val ≠ i.val) →
      arrives = .next s) ∧
    ∀ (k : Fin 32) (e : ListenEntry), s.listens[k] = some e → e.source.station = o → e.source.index.val = i.val →
      s.findListen e.source = some k →
      let taken := fun (x : ListenEntry) (cs : Counters) =>
        arrives = .next { s with listens := s.listens.set k (some x), counters := cs }
      let primed := fun x : ListenEntry => { x with
        play := some q, buffer := [⟨q, b⟩], miss := 0, state := if target ≤ 1 then .playing else .priming }
      (e.state = .empty → taken (primed e) s.counters) ∧
      ∀ p, e.state ≠ .empty → e.play = some p →
        let d := serialDiff q p
        (d < 0 → taken { e with lateRx := satInc e.lateRx } { s.counters with lateRx := satInc s.counters.lateRx }) ∧
        (8 ≤ d → taken (primed { e with resync := satInc e.resync })
          { s.counters with resync := satInc s.counters.resync }) ∧
        (0 ≤ d → d < 8 → (∃ x ∈ e.buffer, x.seq = q) →
          taken { e with dup := satInc e.dup } { s.counters with dup := satInc s.counters.dup }) ∧
        (0 ≤ d → d < 8 → (∀ x ∈ e.buffer, x.seq ≠ q) → taken { e with
          buffer := e.buffer ++ [⟨q, b⟩]
          state := if e.state = .priming ∧ target ≤ e.buffer.length + 1 then .playing else e.state } s.counters)

/--
A PRESENCE of a peer: a same start stamp only refreshes its record; a first one brings STATION PRESENT and a JOIN for
each marked entry of its sources, in index order; a new stamp brings STATION RESTARTED, the removal of what it held, as
PresenceTimersAndDuplicate states a report of absence, and then a JOIN for each entry of its sources (R61, R80, R106,
R107, R109 to R112, R120, R123). The orders within the report that the rules leave open are log entries 14, 23
and 37.
-/
def Obligations.PresenceUpdatesRoster : Prop :=
  ∀ (s : State) (o target own : Station) (hop : Fin 64) (q : Seq) (l d : BitVec 8) (ho : o.val < 63),
    s.mode ≠ .unconfigured → s.ring.status = .up → s.cfg.number = some own → o ≠ own → s.ring.handOff = [] →
    target.val = 63 ∨ target = own → hop.val < 62 →
    let old := s.roster[o.val]
    let heard := { s with roster := s.roster.set o.val ⟨true, some q, some s.clock.now, hop, l, d⟩ }
    let taken := exec (.presence true o target hop q l d) s
    (old.present = true → old.stamp = some q → taken = .next heard) ∧
    (old.present = false → ∃ t, taken = .next t ∧
      (∀ k : Fin 32, t.listens[k] = s.listens[k].map fun e => if e.source.station = o ∧ e.absent = true then
        { e with absent := false, lastJoin := some s.clock.now } else e) ∧
      t = ((List.finRange 32).filterMap fun k => (s.listens[k].filter fun e =>
            e.source.station == o && e.absent).map fun e => (⟨o, .join e.source.index e.cls⟩ : Note)).foldl State.hand
          { heard with
            events := s.events.push (.station o .present (some q) s.audio.blockCounter)
            listens := t.listens }) ∧
    (old.present = true → old.stamp ≠ some q →
      let gone := (heard.emit (.station o .restarted (some q) s.audio.blockCounter)).reportAbsence o
      ∃ t, taken = .next t ∧
      (∀ k : Fin 32, t.listens[k] = gone.listens[k].map fun e => if e.source.station = o then
        { e with absent := false, lastJoin := some s.clock.now } else e) ∧
      t = ((List.finRange 32).filterMap fun k => (t.listens[k].filter fun e =>
        e.source.station == o).map fun e => (⟨o, .join e.source.index e.cls⟩ : Note)).foldl State.hand
          { gone with listens := t.listens } ∧
      (∀ n : SourceNo, t.sends[n] = s.sends[n].filter fun x => x.station != o) ∧
      (∀ m : Mix, ∀ r ∈ t.talks[m].granted ++ t.talks[m].waiting, r.talker ≠ o) ∧
      (∀ n : TalkNo, ∀ x ∈ t.outTalks[n], ∀ r ∈ x.replies, r.station ≠ o) ∧
      (∀ k : Fin 32, ∀ e ∈ t.listens[k], e.source.station = o → e.absent = false ∧ e.state = .empty ∧ e.buffer = []) ∧
      (∃ es : List Event, t.events = es.foldl EventQueue.push
        (s.events.push (.station o .restarted (some q) s.audio.blockCounter))) ∧
      t = { heard with
        routes := t.routes, talks := t.talks, outTalks := t.outTalks, sends := t.sends, listens := t.listens
        sched := { s.sched with notes := t.sched.notes }, counters := t.counters, events := t.events })

/-- The presence timer hands a PRESENCE every 100 ms in an ACTIVE, UP station; the absence timer makes a station ABSENT and reports it; a PRESENCE of the own number with another stamp silences the station. A report of absence takes the station out of every subscriber list, removes the records of its talker, mix by mix, with their answers, releases and events (as LapseRemovesRecord states a removal), fills the slots they freed, takes its replies out of every outgoing talk, and marks and empties the listen entries of its sources; what is of other stations stays (R61, R80, R103, R104, R108 to R110, R112, R113, R140). That the clock is moved to the due time of a timer is the model's choice (log entry 3), and so is that a timer that is not running changes nothing (log entry 4); that the reply of a removal comes last, and the TALLY events of one report by talk number, are its deductions (log entries 14, 23); that the talker's records on one mix go in wait order, then in grant order, is its choice (log entry 37). -/
def Obligations.PresenceTimersAndDuplicate : Prop :=
  (∀ (u : State) (o : Station),
    let sent := { u with sends := u.sends.map fun l => l.filter fun x => x.station != o }
    let removed := (List.finRange 24).foldl (fun (v : State) (m : Mix) =>
      (v.talks[m].granted.filter fun x => x.talker == o).foldl (State.removeGranted m .talkerGone .talkerGone)
        ((v.talks[m].waiting.filter fun x => x.talker == o).foldl (State.removeWaiting m .talkerGone) v)) sent
    let filled := (List.finRange 24).foldl State.fill removed
    let summed := fun x : OutTalk =>
      let rs := x.replies.filter fun r => r.station != o
      { x with replies := rs, summary := summaryOf rs x.heard x.answerTimerRan }
    u.reportAbsence o = { filled with
      outTalks := filled.outTalks.map fun r => r.map summed
      listens := filled.listens.map fun r => r.map fun e => if e.source.station = o then
        { e with absent := true, state := .empty, play := none, buffer := [], miss := 0, last := Block.silence } else e
      events := (List.finRange 32).foldl (fun q n => match filled.outTalks[n] with
        | some x => if (summed x).summary = x.summary then q
          else q.push (.tally n x.origin (summed x).summary false)
        | none => q) filled.events } ∧
    (∀ m : Mix, ∀ r ∈ u.talks[m].granted, r.talker ≠ o → r ∈ (u.reportAbsence o).talks[m].granted)) ∧
  ∀ s : State,
    (s.presenceDue = none → exec .presenceTimerExpiry s = .next s) ∧
    (∀ due, s.presenceDue = some due →
      let ran := { s.reach due with presenceDue := some (due + 2457600) }
      (s.mode ≠ .active ∨ s.ring.status = .down → exec .presenceTimerExpiry s = .next ran) ∧
      (s.mode = .active → s.ring.status = .up → ∀ q, s.cfg.startStamp = some q →
        exec .presenceTimerExpiry s = .next (ran.hand ⟨63, .presence q
          (BitVec.ofNat 8 ((List.finRange 32).countP fun k => s.listens[k].isSome))
          (BitVec.ofNat 8 ((List.finRange 24).countP fun n => !s.sends[n].isEmpty))⟩))) ∧
    (∀ (o : Station) (ho : o.val < 63),
      let old := s.roster[o.val]
      (old.present = false → exec (.absenceTimerExpiry o) s = .next s) ∧
      (∀ heardAt, old.present = true → old.lastHeard = some heardAt → ∃ t, exec (.absenceTimerExpiry o) s = .next t ∧
        t = (({ s.reach (heardAt + 8601600) with roster := s.roster.set o.val { old with present := false } } :
          State).emit (.station o .absent old.stamp s.audio.blockCounter)).reportAbsence o ∧
        (∀ n : SourceNo, t.sends[n] = s.sends[n].filter fun x => x.station != o) ∧
        (∀ m : Mix, ∀ r ∈ t.talks[m].granted ++ t.talks[m].waiting, r.talker ≠ o) ∧
        (∀ n : TalkNo, ∀ x ∈ t.outTalks[n], ∀ r ∈ x.replies, r.station ≠ o) ∧
        (∀ k : Fin 32, ∀ e ∈ t.listens[k], e.source.station = o → e.absent = true ∧ e.state = .empty ∧ e.buffer = []) ∧
        (∃ es : List Event, t.events = es.foldl EventQueue.push
          (s.events.push (.station o .absent old.stamp s.audio.blockCounter))) ∧
        t = { s.reach (heardAt + 8601600) with
          roster := s.roster.set o.val { old with present := false }
          routes := t.routes, talks := t.talks, outTalks := t.outTalks, sends := t.sends, listens := t.listens
          sched := { s.sched with notes := t.sched.notes }, counters := t.counters, events := t.events })) ∧
    (∀ q : Seq, s.mode ≠ .unconfigured → s.ring.status = .up → s.ring.handOff = [] →
      (s.cfg.startStamp = some q ∨ s.mode = .silent → exec (.presenceCheckCopy true q) s = .next s) ∧
      (s.cfg.startStamp ≠ some q → s.mode = .active → exec (.presenceCheckCopy true q) s = .next
        { s with
          mode := .silent, sched := { s.sched with notes := [], queues := Vector.replicate 4 [] }
          events := s.events.push (.ring .duplicate s.audio.blockCounter (some q)) }))

/-- JOIN and LEAVE of a peer in the subscriber list of an own source, the expiry of a subscriber 600 ms after its last JOIN, and the refresh of a JOIN 200 ms after the last one (R117 to R119, R123). The model's choices: the clock is moved to the time of the expiry or the refresh (log entry 3), a timer that is not running changes nothing (log entry 4), a copy completed word by word is taken from `handOff` (log entry 9), and a JOIN of source index 24 to 31 is counted whether or not its origin is PRESENT (log entry 35). -/
def Obligations.SubscriptionsAreKept : Prop :=
  ∀ (s : State) (o own : Station),
    (s.mode ≠ .unconfigured → s.ring.status = .up → s.cfg.number = some own → own.val ≠ 63 → o ≠ own →
      (∀ (n : SourceNo) (c : Cls) (i : Fin 32), i.val = n.val →
        (s.ring.handOff = [] → s.isPresent o = true → exec (.join true o own i c) s = .next
          { s with sends := s.sends.set n (if s.sends[n].any (fun x => x.station == o) then
              s.sends[n].map fun x => if x.station = o then ⟨o, c, s.clock.now⟩ else x
            else s.sends[n] ++ [⟨o, c, s.clock.now⟩]) }) ∧
        (s.ring.handOff = [] → s.isPresent o = false → exec (.join true o own i c) s = .next s) ∧
        (s.ring.handOff = [] → exec (.leave true o own i) s = .next
          { s with sends := s.sends.set n (s.sends[n].filter fun x => x.station != o) }) ∧
        (∀ rest, s.ring.handOff = Instr.leave true o own i :: rest → exec (.leave true o own i) s = .next
          { s with
            ring := { s.ring with handOff := rest }
            sends := s.sends.set n (s.sends[n].filter fun x => x.station != o) })) ∧
      (∀ (i : Fin 32) (c : Cls), 24 ≤ i.val → s.ring.handOff = [] →
        ∀ x ∈ [Instr.join true o own i c, .leave true o own i], exec x s = .next
          { s with counters := { s.counters with sendIgnored := satInc s.counters.sendIgnored } })) ∧
    (∀ n : SourceNo,
      ((∀ x ∈ s.sends[n], x.station ≠ o) → exec (.subscriberExpiry n o) s = .next s) ∧
      (∀ x ∈ s.sends[n], x.station = o → (∀ y ∈ s.sends[n], y.station = o → y = x) →
        exec (.subscriberExpiry n o) s = .next
          { s.reach (x.lastJoin + 14745600) with
            sends := s.sends.set n (s.sends[n].filter fun x => x.station != o) })) ∧
    (∀ k : Fin 32,
      (s.listens[k] = none → exec (.joinRefreshExpiry k) s = .next s) ∧
      (∀ e, s.listens[k] = some e → e.absent = true ∨ e.lastJoin = none → exec (.joinRefreshExpiry k) s = .next s) ∧
      (∀ e t, s.listens[k] = some e → e.absent = false → e.lastJoin = some t →
        let u := s.reach (t + 4915200)
        exec (.joinRefreshExpiry k) s = .next
          (({ u with listens := s.listens.set k (some { e with lastJoin := some u.clock.now }) } : State).hand
            ⟨e.source.station, .join e.source.index e.cls⟩)))

/-! ### What every step keeps -/

/-- The state after a device reset has every property that the two statements below say every step keeps. -/
def Obligations.ResetHasInvariants : Prop :=
  let s := State.reset
  (s.EventsBounded ∧ s.QueuesBounded ∧ s.QuietUnlessActive ∧ s.BufferBounded ∧ s.PortBuffersBounded ∧
    s.CountersBounded ∧ s.GainsBounded ∧ s.BuffersInWindow ∧
    s.RoutesWithin ∧ s.TalksWithin ∧ s.RepliesWithin) ∧
  (s.EmptyWhileUnconfigured ∧ s.ReturnTalksAdmitted ∧ s.MixMinus ∧ s.RoutesBounded ∧ s.SlotsFilled ∧ s.KeysUnique ∧
    s.HoldersCountGranted ∧ s.ListensFollowRoutes)

/-- Every step, from any state, keeps the capacities of the queues, buffers and tables (192 route entries, 48 incoming talk records, 8 replies of a talk), the ranges of counters and gains, and the window of each jitter buffer (section 1.3, R37, R42, R43, R48, R69, R98, R130, R140, R151, R174, R191, R193). -/
def Obligations.StepKeepsCapacities : Prop :=
  ∀ s t : State, step s = .next t →
    (s.EventsBounded → t.EventsBounded) ∧ (s.QueuesBounded → t.QueuesBounded) ∧
    (s.QuietUnlessActive → t.QuietUnlessActive) ∧ (s.BufferBounded → t.BufferBounded) ∧
    (s.PortBuffersBounded → t.PortBuffersBounded) ∧ (s.CountersBounded → t.CountersBounded) ∧
    (s.GainsBounded → t.GainsBounded) ∧ (s.BuffersInWindow → t.BuffersInWindow) ∧
    (s.RoutesWithin → t.RoutesWithin) ∧ (s.TalksWithin → t.TalksWithin) ∧ (s.RepliesWithin → t.RepliesWithin)

/--
Every step, from any state, keeps the tables true to each other: an UNCONFIGURED station empty, talks on a return mix
only at an admitted port, mix-minus, at most 12 routes a mix, slots filled, keys unique, holders counting GRANTED
records, listen entries counting routes (R3, R14, R34, R48, R49, R52, R83).
-/
def Obligations.StepKeepsTablesTrue : Prop :=
  ∀ s t : State, step s = .next t →
    (s.MixMinus → t.MixMinus) ∧ (s.RoutesBounded → t.RoutesBounded) ∧ (s.SlotsFilled → t.SlotsFilled) ∧
    (s.KeysUnique → t.KeysUnique) ∧ (s.ListensFollowRoutes → t.ListensFollowRoutes) ∧
    (s.EmptyWhileUnconfigured → t.EmptyWhileUnconfigured) ∧
    (s.EmptyWhileUnconfigured → s.ReturnTalksAdmitted → t.ReturnTalksAdmitted) ∧
    (s.EmptyWhileUnconfigured → s.HoldersCountGranted → t.HoldersCountGranted)
end

