-- ==== Sys2Proof/Laws/State.lean ====
section
/-!
SUPPORT. What each elementary update of the state leaves in each field: one lemma per field per update, so that no proof
unfolds an update.
-/

namespace Sys2Proof.Machine

variable (s : State)

/-! ### State.reach -/

@[simp] theorem State.reach_pending (t : Nat) : (s.reach t).pending = s.pending := rfl
@[simp] theorem State.reach_clock (t : Nat) : (s.reach t).clock = s.clock.advance (t - s.clock.now) := rfl
@[simp] theorem State.reach_mode (t : Nat) : (s.reach t).mode = s.mode := rfl
@[simp] theorem State.reach_cfg (t : Nat) : (s.reach t).cfg = s.cfg := rfl
@[simp] theorem State.reach_mixes (t : Nat) : (s.reach t).mixes = s.mixes := rfl
@[simp] theorem State.reach_routes (t : Nat) : (s.reach t).routes = s.routes := rfl
@[simp] theorem State.reach_talks (t : Nat) : (s.reach t).talks = s.talks := rfl
@[simp] theorem State.reach_outTalks (t : Nat) : (s.reach t).outTalks = s.outTalks := rfl
@[simp] theorem State.reach_roster (t : Nat) : (s.reach t).roster = s.roster := rfl
@[simp] theorem State.reach_presenceDue (t : Nat) : (s.reach t).presenceDue = s.presenceDue := rfl
@[simp] theorem State.reach_sends (t : Nat) : (s.reach t).sends = s.sends := rfl
@[simp] theorem State.reach_sched (t : Nat) : (s.reach t).sched = s.sched := rfl
@[simp] theorem State.reach_listens (t : Nat) : (s.reach t).listens = s.listens := rfl
@[simp] theorem State.reach_ports (t : Nat) : (s.reach t).ports = s.ports := rfl
@[simp] theorem State.reach_audio (t : Nat) : (s.reach t).audio = s.audio := rfl
@[simp] theorem State.reach_ring_aligned (t : Nat) (h : s.ring.aligned = true) : (s.reach t).ring = s.ring := by
  simp [State.reach, h]
@[simp] theorem State.reach_ring_closed (t : Nat) (h : s.bypassClosed = true) : (s.reach t).ring = s.ring := by
  simp [State.reach, h]
@[simp] theorem State.reach_counters (t : Nat) : (s.reach t).counters = s.counters := rfl
@[simp] theorem State.reach_events (t : Nat) : (s.reach t).events = s.events := rfl
@[simp] theorem State.reach_response (t : Nat) : (s.reach t).response = s.response := rfl
@[simp] theorem State.reach_selected (t : Nat) : (s.reach t).selected = s.selected := rfl
@[simp] theorem State.reach_frameReply (t : Nat) : (s.reach t).frameReply = s.frameReply := rfl
@[simp] theorem State.reach_choices (t : Nat) : (s.reach t).choices = s.choices := rfl

/-! ### State.emit -/

@[simp] theorem State.emit_pending (e : Event) : (s.emit e).pending = s.pending := rfl
@[simp] theorem State.emit_clock (e : Event) : (s.emit e).clock = s.clock := rfl
@[simp] theorem State.emit_mode (e : Event) : (s.emit e).mode = s.mode := rfl
@[simp] theorem State.emit_cfg (e : Event) : (s.emit e).cfg = s.cfg := rfl
@[simp] theorem State.emit_mixes (e : Event) : (s.emit e).mixes = s.mixes := rfl
@[simp] theorem State.emit_routes (e : Event) : (s.emit e).routes = s.routes := rfl
@[simp] theorem State.emit_talks (e : Event) : (s.emit e).talks = s.talks := rfl
@[simp] theorem State.emit_outTalks (e : Event) : (s.emit e).outTalks = s.outTalks := rfl
@[simp] theorem State.emit_roster (e : Event) : (s.emit e).roster = s.roster := rfl
@[simp] theorem State.emit_presenceDue (e : Event) : (s.emit e).presenceDue = s.presenceDue := rfl
@[simp] theorem State.emit_sends (e : Event) : (s.emit e).sends = s.sends := rfl
@[simp] theorem State.emit_sched (e : Event) : (s.emit e).sched = s.sched := rfl
@[simp] theorem State.emit_listens (e : Event) : (s.emit e).listens = s.listens := rfl
@[simp] theorem State.emit_ports (e : Event) : (s.emit e).ports = s.ports := rfl
@[simp] theorem State.emit_audio (e : Event) : (s.emit e).audio = s.audio := rfl
@[simp] theorem State.emit_ring (e : Event) : (s.emit e).ring = s.ring := rfl
@[simp] theorem State.emit_counters (e : Event) : (s.emit e).counters = s.counters := rfl
@[simp] theorem State.emit_events (e : Event) : (s.emit e).events = s.events.push e := rfl
@[simp] theorem State.emit_response (e : Event) : (s.emit e).response = s.response := rfl
@[simp] theorem State.emit_selected (e : Event) : (s.emit e).selected = s.selected := rfl
@[simp] theorem State.emit_frameReply (e : Event) : (s.emit e).frameReply = s.frameReply := rfl
@[simp] theorem State.emit_choices (e : Event) : (s.emit e).choices = s.choices := rfl

/-! ### State.count -/

@[simp] theorem State.count_pending (f : Counters → Counters) : (s.count f).pending = s.pending := rfl
@[simp] theorem State.count_clock (f : Counters → Counters) : (s.count f).clock = s.clock := rfl
@[simp] theorem State.count_mode (f : Counters → Counters) : (s.count f).mode = s.mode := rfl
@[simp] theorem State.count_cfg (f : Counters → Counters) : (s.count f).cfg = s.cfg := rfl
@[simp] theorem State.count_mixes (f : Counters → Counters) : (s.count f).mixes = s.mixes := rfl
@[simp] theorem State.count_routes (f : Counters → Counters) : (s.count f).routes = s.routes := rfl
@[simp] theorem State.count_talks (f : Counters → Counters) : (s.count f).talks = s.talks := rfl
@[simp] theorem State.count_outTalks (f : Counters → Counters) : (s.count f).outTalks = s.outTalks := rfl
@[simp] theorem State.count_roster (f : Counters → Counters) : (s.count f).roster = s.roster := rfl
@[simp] theorem State.count_presenceDue (f : Counters → Counters) : (s.count f).presenceDue = s.presenceDue := rfl
@[simp] theorem State.count_sends (f : Counters → Counters) : (s.count f).sends = s.sends := rfl
@[simp] theorem State.count_sched (f : Counters → Counters) : (s.count f).sched = s.sched := rfl
@[simp] theorem State.count_listens (f : Counters → Counters) : (s.count f).listens = s.listens := rfl
@[simp] theorem State.count_ports (f : Counters → Counters) : (s.count f).ports = s.ports := rfl
@[simp] theorem State.count_audio (f : Counters → Counters) : (s.count f).audio = s.audio := rfl
@[simp] theorem State.count_ring (f : Counters → Counters) : (s.count f).ring = s.ring := rfl
@[simp] theorem State.count_counters (f : Counters → Counters) : (s.count f).counters = f s.counters := rfl
@[simp] theorem State.count_events (f : Counters → Counters) : (s.count f).events = s.events := rfl
@[simp] theorem State.count_response (f : Counters → Counters) : (s.count f).response = s.response := rfl
@[simp] theorem State.count_selected (f : Counters → Counters) : (s.count f).selected = s.selected := rfl
@[simp] theorem State.count_frameReply (f : Counters → Counters) : (s.count f).frameReply = s.frameReply := rfl
@[simp] theorem State.count_choices (f : Counters → Counters) : (s.count f).choices = s.choices := rfl

/-! ### State.respond -/

@[simp] theorem State.respond_pending (c : BitVec 8) (r : Result) (w : RefusalReason) (ws : List Word) : (s.respond c r w ws).pending = s.pending := rfl
@[simp] theorem State.respond_clock (c : BitVec 8) (r : Result) (w : RefusalReason) (ws : List Word) : (s.respond c r w ws).clock = s.clock := rfl
@[simp] theorem State.respond_mode (c : BitVec 8) (r : Result) (w : RefusalReason) (ws : List Word) : (s.respond c r w ws).mode = s.mode := rfl
@[simp] theorem State.respond_cfg (c : BitVec 8) (r : Result) (w : RefusalReason) (ws : List Word) : (s.respond c r w ws).cfg = s.cfg := rfl
@[simp] theorem State.respond_mixes (c : BitVec 8) (r : Result) (w : RefusalReason) (ws : List Word) : (s.respond c r w ws).mixes = s.mixes := rfl
@[simp] theorem State.respond_routes (c : BitVec 8) (r : Result) (w : RefusalReason) (ws : List Word) : (s.respond c r w ws).routes = s.routes := rfl
@[simp] theorem State.respond_talks (c : BitVec 8) (r : Result) (w : RefusalReason) (ws : List Word) : (s.respond c r w ws).talks = s.talks := rfl
@[simp] theorem State.respond_outTalks (c : BitVec 8) (r : Result) (w : RefusalReason) (ws : List Word) : (s.respond c r w ws).outTalks = s.outTalks := rfl
@[simp] theorem State.respond_roster (c : BitVec 8) (r : Result) (w : RefusalReason) (ws : List Word) : (s.respond c r w ws).roster = s.roster := rfl
@[simp] theorem State.respond_presenceDue (c : BitVec 8) (r : Result) (w : RefusalReason) (ws : List Word) : (s.respond c r w ws).presenceDue = s.presenceDue := rfl
@[simp] theorem State.respond_sends (c : BitVec 8) (r : Result) (w : RefusalReason) (ws : List Word) : (s.respond c r w ws).sends = s.sends := rfl
@[simp] theorem State.respond_sched (c : BitVec 8) (r : Result) (w : RefusalReason) (ws : List Word) : (s.respond c r w ws).sched = s.sched := rfl
@[simp] theorem State.respond_listens (c : BitVec 8) (r : Result) (w : RefusalReason) (ws : List Word) : (s.respond c r w ws).listens = s.listens := rfl
@[simp] theorem State.respond_ports (c : BitVec 8) (r : Result) (w : RefusalReason) (ws : List Word) : (s.respond c r w ws).ports = s.ports := rfl
@[simp] theorem State.respond_audio (c : BitVec 8) (r : Result) (w : RefusalReason) (ws : List Word) : (s.respond c r w ws).audio = s.audio := rfl
@[simp] theorem State.respond_ring (c : BitVec 8) (r : Result) (w : RefusalReason) (ws : List Word) : (s.respond c r w ws).ring = s.ring := rfl
@[simp] theorem State.respond_counters (c : BitVec 8) (r : Result) (w : RefusalReason) (ws : List Word) : (s.respond c r w ws).counters = s.counters := rfl
@[simp] theorem State.respond_events (c : BitVec 8) (r : Result) (w : RefusalReason) (ws : List Word) : (s.respond c r w ws).events = s.events := rfl
@[simp] theorem State.respond_response (c : BitVec 8) (r : Result) (w : RefusalReason) (ws : List Word) : (s.respond c r w ws).response = some ⟨c, r, w, ws⟩ := rfl
@[simp] theorem State.respond_selected (c : BitVec 8) (r : Result) (w : RefusalReason) (ws : List Word) : (s.respond c r w ws).selected = true := rfl
@[simp] theorem State.respond_frameReply (c : BitVec 8) (r : Result) (w : RefusalReason) (ws : List Word) : (s.respond c r w ws).frameReply = s.response := rfl
@[simp] theorem State.respond_choices (c : BitVec 8) (r : Result) (w : RefusalReason) (ws : List Word) : (s.respond c r w ws).choices = s.choices := rfl

/-! ### State.done -/

@[simp] theorem State.done_pending (c : BitVec 8) (ws : List Word) : (s.done c ws).pending = s.pending := rfl
@[simp] theorem State.done_clock (c : BitVec 8) (ws : List Word) : (s.done c ws).clock = s.clock := rfl
@[simp] theorem State.done_mode (c : BitVec 8) (ws : List Word) : (s.done c ws).mode = s.mode := rfl
@[simp] theorem State.done_cfg (c : BitVec 8) (ws : List Word) : (s.done c ws).cfg = s.cfg := rfl
@[simp] theorem State.done_mixes (c : BitVec 8) (ws : List Word) : (s.done c ws).mixes = s.mixes := rfl
@[simp] theorem State.done_routes (c : BitVec 8) (ws : List Word) : (s.done c ws).routes = s.routes := rfl
@[simp] theorem State.done_talks (c : BitVec 8) (ws : List Word) : (s.done c ws).talks = s.talks := rfl
@[simp] theorem State.done_outTalks (c : BitVec 8) (ws : List Word) : (s.done c ws).outTalks = s.outTalks := rfl
@[simp] theorem State.done_roster (c : BitVec 8) (ws : List Word) : (s.done c ws).roster = s.roster := rfl
@[simp] theorem State.done_presenceDue (c : BitVec 8) (ws : List Word) : (s.done c ws).presenceDue = s.presenceDue := rfl
@[simp] theorem State.done_sends (c : BitVec 8) (ws : List Word) : (s.done c ws).sends = s.sends := rfl
@[simp] theorem State.done_sched (c : BitVec 8) (ws : List Word) : (s.done c ws).sched = s.sched := rfl
@[simp] theorem State.done_listens (c : BitVec 8) (ws : List Word) : (s.done c ws).listens = s.listens := rfl
@[simp] theorem State.done_ports (c : BitVec 8) (ws : List Word) : (s.done c ws).ports = s.ports := rfl
@[simp] theorem State.done_audio (c : BitVec 8) (ws : List Word) : (s.done c ws).audio = s.audio := rfl
@[simp] theorem State.done_ring (c : BitVec 8) (ws : List Word) : (s.done c ws).ring = s.ring := rfl
@[simp] theorem State.done_counters (c : BitVec 8) (ws : List Word) : (s.done c ws).counters = s.counters := rfl
@[simp] theorem State.done_events (c : BitVec 8) (ws : List Word) : (s.done c ws).events = s.events := rfl
@[simp] theorem State.done_response (c : BitVec 8) (ws : List Word) : (s.done c ws).response = some ⟨c, .done, .none, ws⟩ := rfl
@[simp] theorem State.done_selected (c : BitVec 8) (ws : List Word) : (s.done c ws).selected = true := rfl
@[simp] theorem State.done_frameReply (c : BitVec 8) (ws : List Word) : (s.done c ws).frameReply = s.response := rfl
@[simp] theorem State.done_choices (c : BitVec 8) (ws : List Word) : (s.done c ws).choices = s.choices := rfl

/-! ### State.badArg -/

@[simp] theorem State.badArg_pending (c : BitVec 8) : (s.badArg c).pending = s.pending := rfl
@[simp] theorem State.badArg_clock (c : BitVec 8) : (s.badArg c).clock = s.clock := rfl
@[simp] theorem State.badArg_mode (c : BitVec 8) : (s.badArg c).mode = s.mode := rfl
@[simp] theorem State.badArg_cfg (c : BitVec 8) : (s.badArg c).cfg = s.cfg := rfl
@[simp] theorem State.badArg_mixes (c : BitVec 8) : (s.badArg c).mixes = s.mixes := rfl
@[simp] theorem State.badArg_routes (c : BitVec 8) : (s.badArg c).routes = s.routes := rfl
@[simp] theorem State.badArg_talks (c : BitVec 8) : (s.badArg c).talks = s.talks := rfl
@[simp] theorem State.badArg_outTalks (c : BitVec 8) : (s.badArg c).outTalks = s.outTalks := rfl
@[simp] theorem State.badArg_roster (c : BitVec 8) : (s.badArg c).roster = s.roster := rfl
@[simp] theorem State.badArg_presenceDue (c : BitVec 8) : (s.badArg c).presenceDue = s.presenceDue := rfl
@[simp] theorem State.badArg_sends (c : BitVec 8) : (s.badArg c).sends = s.sends := rfl
@[simp] theorem State.badArg_sched (c : BitVec 8) : (s.badArg c).sched = s.sched := rfl
@[simp] theorem State.badArg_listens (c : BitVec 8) : (s.badArg c).listens = s.listens := rfl
@[simp] theorem State.badArg_ports (c : BitVec 8) : (s.badArg c).ports = s.ports := rfl
@[simp] theorem State.badArg_audio (c : BitVec 8) : (s.badArg c).audio = s.audio := rfl
@[simp] theorem State.badArg_ring (c : BitVec 8) : (s.badArg c).ring = s.ring := rfl
@[simp] theorem State.badArg_counters (c : BitVec 8) : (s.badArg c).counters = s.counters := rfl
@[simp] theorem State.badArg_events (c : BitVec 8) : (s.badArg c).events = s.events := rfl
@[simp] theorem State.badArg_response (c : BitVec 8) : (s.badArg c).response = some ⟨c, .badArg, .none, []⟩ := rfl
@[simp] theorem State.badArg_selected (c : BitVec 8) : (s.badArg c).selected = true := rfl
@[simp] theorem State.badArg_frameReply (c : BitVec 8) : (s.badArg c).frameReply = s.response := rfl
@[simp] theorem State.badArg_choices (c : BitVec 8) : (s.badArg c).choices = s.choices := rfl

/-! ### State.notConfigured -/

@[simp] theorem State.notConfigured_pending (c : BitVec 8) : (s.notConfigured c).pending = s.pending := rfl
@[simp] theorem State.notConfigured_clock (c : BitVec 8) : (s.notConfigured c).clock = s.clock := rfl
@[simp] theorem State.notConfigured_mode (c : BitVec 8) : (s.notConfigured c).mode = s.mode := rfl
@[simp] theorem State.notConfigured_cfg (c : BitVec 8) : (s.notConfigured c).cfg = s.cfg := rfl
@[simp] theorem State.notConfigured_mixes (c : BitVec 8) : (s.notConfigured c).mixes = s.mixes := rfl
@[simp] theorem State.notConfigured_routes (c : BitVec 8) : (s.notConfigured c).routes = s.routes := rfl
@[simp] theorem State.notConfigured_talks (c : BitVec 8) : (s.notConfigured c).talks = s.talks := rfl
@[simp] theorem State.notConfigured_outTalks (c : BitVec 8) : (s.notConfigured c).outTalks = s.outTalks := rfl
@[simp] theorem State.notConfigured_roster (c : BitVec 8) : (s.notConfigured c).roster = s.roster := rfl
@[simp] theorem State.notConfigured_presenceDue (c : BitVec 8) : (s.notConfigured c).presenceDue = s.presenceDue := rfl
@[simp] theorem State.notConfigured_sends (c : BitVec 8) : (s.notConfigured c).sends = s.sends := rfl
@[simp] theorem State.notConfigured_sched (c : BitVec 8) : (s.notConfigured c).sched = s.sched := rfl
@[simp] theorem State.notConfigured_listens (c : BitVec 8) : (s.notConfigured c).listens = s.listens := rfl
@[simp] theorem State.notConfigured_ports (c : BitVec 8) : (s.notConfigured c).ports = s.ports := rfl
@[simp] theorem State.notConfigured_audio (c : BitVec 8) : (s.notConfigured c).audio = s.audio := rfl
@[simp] theorem State.notConfigured_ring (c : BitVec 8) : (s.notConfigured c).ring = s.ring := rfl
@[simp] theorem State.notConfigured_counters (c : BitVec 8) : (s.notConfigured c).counters = s.counters := rfl
@[simp] theorem State.notConfigured_events (c : BitVec 8) : (s.notConfigured c).events = s.events := rfl
@[simp] theorem State.notConfigured_response (c : BitVec 8) : (s.notConfigured c).response = some ⟨c, .notConfigured, .none, []⟩ := rfl
@[simp] theorem State.notConfigured_selected (c : BitVec 8) : (s.notConfigured c).selected = true := rfl
@[simp] theorem State.notConfigured_frameReply (c : BitVec 8) : (s.notConfigured c).frameReply = s.response := rfl
@[simp] theorem State.notConfigured_choices (c : BitVec 8) : (s.notConfigured c).choices = s.choices := rfl

/-! ### State.refuse -/

@[simp] theorem State.refuse_pending (c : BitVec 8) (w : RefusalReason) : (s.refuse c w).pending = s.pending := rfl
@[simp] theorem State.refuse_clock (c : BitVec 8) (w : RefusalReason) : (s.refuse c w).clock = s.clock := rfl
@[simp] theorem State.refuse_mode (c : BitVec 8) (w : RefusalReason) : (s.refuse c w).mode = s.mode := rfl
@[simp] theorem State.refuse_cfg (c : BitVec 8) (w : RefusalReason) : (s.refuse c w).cfg = s.cfg := rfl
@[simp] theorem State.refuse_mixes (c : BitVec 8) (w : RefusalReason) : (s.refuse c w).mixes = s.mixes := rfl
@[simp] theorem State.refuse_routes (c : BitVec 8) (w : RefusalReason) : (s.refuse c w).routes = s.routes := rfl
@[simp] theorem State.refuse_talks (c : BitVec 8) (w : RefusalReason) : (s.refuse c w).talks = s.talks := rfl
@[simp] theorem State.refuse_outTalks (c : BitVec 8) (w : RefusalReason) : (s.refuse c w).outTalks = s.outTalks := rfl
@[simp] theorem State.refuse_roster (c : BitVec 8) (w : RefusalReason) : (s.refuse c w).roster = s.roster := rfl
@[simp] theorem State.refuse_presenceDue (c : BitVec 8) (w : RefusalReason) : (s.refuse c w).presenceDue = s.presenceDue := rfl
@[simp] theorem State.refuse_sends (c : BitVec 8) (w : RefusalReason) : (s.refuse c w).sends = s.sends := rfl
@[simp] theorem State.refuse_sched (c : BitVec 8) (w : RefusalReason) : (s.refuse c w).sched = s.sched := rfl
@[simp] theorem State.refuse_listens (c : BitVec 8) (w : RefusalReason) : (s.refuse c w).listens = s.listens := rfl
@[simp] theorem State.refuse_ports (c : BitVec 8) (w : RefusalReason) : (s.refuse c w).ports = s.ports := rfl
@[simp] theorem State.refuse_audio (c : BitVec 8) (w : RefusalReason) : (s.refuse c w).audio = s.audio := rfl
@[simp] theorem State.refuse_ring (c : BitVec 8) (w : RefusalReason) : (s.refuse c w).ring = s.ring := rfl
@[simp] theorem State.refuse_counters (c : BitVec 8) (w : RefusalReason) : (s.refuse c w).counters = s.counters := rfl
@[simp] theorem State.refuse_events (c : BitVec 8) (w : RefusalReason) : (s.refuse c w).events = s.events := rfl
@[simp] theorem State.refuse_response (c : BitVec 8) (w : RefusalReason) : (s.refuse c w).response = some ⟨c, .refused, w, []⟩ := rfl
@[simp] theorem State.refuse_selected (c : BitVec 8) (w : RefusalReason) : (s.refuse c w).selected = true := rfl
@[simp] theorem State.refuse_frameReply (c : BitVec 8) (w : RefusalReason) : (s.refuse c w).frameReply = s.response := rfl
@[simp] theorem State.refuse_choices (c : BitVec 8) (w : RefusalReason) : (s.refuse c w).choices = s.choices := rfl

/-! ### State.setListen -/

@[simp] theorem State.setListen_pending (k : Fin 32) (e : Option ListenEntry) : (s.setListen k e).pending = s.pending := rfl
@[simp] theorem State.setListen_clock (k : Fin 32) (e : Option ListenEntry) : (s.setListen k e).clock = s.clock := rfl
@[simp] theorem State.setListen_mode (k : Fin 32) (e : Option ListenEntry) : (s.setListen k e).mode = s.mode := rfl
@[simp] theorem State.setListen_cfg (k : Fin 32) (e : Option ListenEntry) : (s.setListen k e).cfg = s.cfg := rfl
@[simp] theorem State.setListen_mixes (k : Fin 32) (e : Option ListenEntry) : (s.setListen k e).mixes = s.mixes := rfl
@[simp] theorem State.setListen_routes (k : Fin 32) (e : Option ListenEntry) : (s.setListen k e).routes = s.routes := rfl
@[simp] theorem State.setListen_talks (k : Fin 32) (e : Option ListenEntry) : (s.setListen k e).talks = s.talks := rfl
@[simp] theorem State.setListen_outTalks (k : Fin 32) (e : Option ListenEntry) : (s.setListen k e).outTalks = s.outTalks := rfl
@[simp] theorem State.setListen_roster (k : Fin 32) (e : Option ListenEntry) : (s.setListen k e).roster = s.roster := rfl
@[simp] theorem State.setListen_presenceDue (k : Fin 32) (e : Option ListenEntry) : (s.setListen k e).presenceDue = s.presenceDue := rfl
@[simp] theorem State.setListen_sends (k : Fin 32) (e : Option ListenEntry) : (s.setListen k e).sends = s.sends := rfl
@[simp] theorem State.setListen_sched (k : Fin 32) (e : Option ListenEntry) : (s.setListen k e).sched = s.sched := rfl
@[simp] theorem State.setListen_listens (k : Fin 32) (e : Option ListenEntry) : (s.setListen k e).listens = s.listens.set k e := rfl
@[simp] theorem State.setListen_ports (k : Fin 32) (e : Option ListenEntry) : (s.setListen k e).ports = s.ports := rfl
@[simp] theorem State.setListen_audio (k : Fin 32) (e : Option ListenEntry) : (s.setListen k e).audio = s.audio := rfl
@[simp] theorem State.setListen_ring (k : Fin 32) (e : Option ListenEntry) : (s.setListen k e).ring = s.ring := rfl
@[simp] theorem State.setListen_counters (k : Fin 32) (e : Option ListenEntry) : (s.setListen k e).counters = s.counters := rfl
@[simp] theorem State.setListen_events (k : Fin 32) (e : Option ListenEntry) : (s.setListen k e).events = s.events := rfl
@[simp] theorem State.setListen_response (k : Fin 32) (e : Option ListenEntry) : (s.setListen k e).response = s.response := rfl
@[simp] theorem State.setListen_selected (k : Fin 32) (e : Option ListenEntry) : (s.setListen k e).selected = s.selected := rfl
@[simp] theorem State.setListen_frameReply (k : Fin 32) (e : Option ListenEntry) : (s.setListen k e).frameReply = s.frameReply := rfl
@[simp] theorem State.setListen_choices (k : Fin 32) (e : Option ListenEntry) : (s.setListen k e).choices = s.choices := rfl

/-! ### State.setRoutes -/

@[simp] theorem State.setRoutes_pending (m : Mix) (rs : List Route) : (s.setRoutes m rs).pending = s.pending := rfl
@[simp] theorem State.setRoutes_clock (m : Mix) (rs : List Route) : (s.setRoutes m rs).clock = s.clock := rfl
@[simp] theorem State.setRoutes_mode (m : Mix) (rs : List Route) : (s.setRoutes m rs).mode = s.mode := rfl
@[simp] theorem State.setRoutes_cfg (m : Mix) (rs : List Route) : (s.setRoutes m rs).cfg = s.cfg := rfl
@[simp] theorem State.setRoutes_mixes (m : Mix) (rs : List Route) : (s.setRoutes m rs).mixes = s.mixes := rfl
@[simp] theorem State.setRoutes_routes (m : Mix) (rs : List Route) : (s.setRoutes m rs).routes = s.routes.set m rs := rfl
@[simp] theorem State.setRoutes_talks (m : Mix) (rs : List Route) : (s.setRoutes m rs).talks = s.talks := rfl
@[simp] theorem State.setRoutes_outTalks (m : Mix) (rs : List Route) : (s.setRoutes m rs).outTalks = s.outTalks := rfl
@[simp] theorem State.setRoutes_roster (m : Mix) (rs : List Route) : (s.setRoutes m rs).roster = s.roster := rfl
@[simp] theorem State.setRoutes_presenceDue (m : Mix) (rs : List Route) : (s.setRoutes m rs).presenceDue = s.presenceDue := rfl
@[simp] theorem State.setRoutes_sends (m : Mix) (rs : List Route) : (s.setRoutes m rs).sends = s.sends := rfl
@[simp] theorem State.setRoutes_sched (m : Mix) (rs : List Route) : (s.setRoutes m rs).sched = s.sched := rfl
@[simp] theorem State.setRoutes_listens (m : Mix) (rs : List Route) : (s.setRoutes m rs).listens = s.listens := rfl
@[simp] theorem State.setRoutes_ports (m : Mix) (rs : List Route) : (s.setRoutes m rs).ports = s.ports := rfl
@[simp] theorem State.setRoutes_audio (m : Mix) (rs : List Route) : (s.setRoutes m rs).audio = s.audio := rfl
@[simp] theorem State.setRoutes_ring (m : Mix) (rs : List Route) : (s.setRoutes m rs).ring = s.ring := rfl
@[simp] theorem State.setRoutes_counters (m : Mix) (rs : List Route) : (s.setRoutes m rs).counters = s.counters := rfl
@[simp] theorem State.setRoutes_events (m : Mix) (rs : List Route) : (s.setRoutes m rs).events = s.events := rfl
@[simp] theorem State.setRoutes_response (m : Mix) (rs : List Route) : (s.setRoutes m rs).response = s.response := rfl
@[simp] theorem State.setRoutes_selected (m : Mix) (rs : List Route) : (s.setRoutes m rs).selected = s.selected := rfl
@[simp] theorem State.setRoutes_frameReply (m : Mix) (rs : List Route) : (s.setRoutes m rs).frameReply = s.frameReply := rfl
@[simp] theorem State.setRoutes_choices (m : Mix) (rs : List Route) : (s.setRoutes m rs).choices = s.choices := rfl

/-! ### State.setTalks -/

@[simp] theorem State.setTalks_pending (m : Mix) (t : MixTalks) : (s.setTalks m t).pending = s.pending := rfl
@[simp] theorem State.setTalks_clock (m : Mix) (t : MixTalks) : (s.setTalks m t).clock = s.clock := rfl
@[simp] theorem State.setTalks_mode (m : Mix) (t : MixTalks) : (s.setTalks m t).mode = s.mode := rfl
@[simp] theorem State.setTalks_cfg (m : Mix) (t : MixTalks) : (s.setTalks m t).cfg = s.cfg := rfl
@[simp] theorem State.setTalks_mixes (m : Mix) (t : MixTalks) : (s.setTalks m t).mixes = s.mixes := rfl
@[simp] theorem State.setTalks_routes (m : Mix) (t : MixTalks) : (s.setTalks m t).routes = s.routes := rfl
@[simp] theorem State.setTalks_talks (m : Mix) (t : MixTalks) : (s.setTalks m t).talks = s.talks.set m t := rfl
@[simp] theorem State.setTalks_outTalks (m : Mix) (t : MixTalks) : (s.setTalks m t).outTalks = s.outTalks := rfl
@[simp] theorem State.setTalks_roster (m : Mix) (t : MixTalks) : (s.setTalks m t).roster = s.roster := rfl
@[simp] theorem State.setTalks_presenceDue (m : Mix) (t : MixTalks) : (s.setTalks m t).presenceDue = s.presenceDue := rfl
@[simp] theorem State.setTalks_sends (m : Mix) (t : MixTalks) : (s.setTalks m t).sends = s.sends := rfl
@[simp] theorem State.setTalks_sched (m : Mix) (t : MixTalks) : (s.setTalks m t).sched = s.sched := rfl
@[simp] theorem State.setTalks_listens (m : Mix) (t : MixTalks) : (s.setTalks m t).listens = s.listens := rfl
@[simp] theorem State.setTalks_ports (m : Mix) (t : MixTalks) : (s.setTalks m t).ports = s.ports := rfl
@[simp] theorem State.setTalks_audio (m : Mix) (t : MixTalks) : (s.setTalks m t).audio = s.audio := rfl
@[simp] theorem State.setTalks_ring (m : Mix) (t : MixTalks) : (s.setTalks m t).ring = s.ring := rfl
@[simp] theorem State.setTalks_counters (m : Mix) (t : MixTalks) : (s.setTalks m t).counters = s.counters := rfl
@[simp] theorem State.setTalks_events (m : Mix) (t : MixTalks) : (s.setTalks m t).events = s.events := rfl
@[simp] theorem State.setTalks_response (m : Mix) (t : MixTalks) : (s.setTalks m t).response = s.response := rfl
@[simp] theorem State.setTalks_selected (m : Mix) (t : MixTalks) : (s.setTalks m t).selected = s.selected := rfl
@[simp] theorem State.setTalks_frameReply (m : Mix) (t : MixTalks) : (s.setTalks m t).frameReply = s.frameReply := rfl
@[simp] theorem State.setTalks_choices (m : Mix) (t : MixTalks) : (s.setTalks m t).choices = s.choices := rfl

/-! ### State.setOut -/

@[simp] theorem State.setOut_pending (n : TalkNo) (t : Option OutTalk) : (s.setOut n t).pending = s.pending := rfl
@[simp] theorem State.setOut_clock (n : TalkNo) (t : Option OutTalk) : (s.setOut n t).clock = s.clock := rfl
@[simp] theorem State.setOut_mode (n : TalkNo) (t : Option OutTalk) : (s.setOut n t).mode = s.mode := rfl
@[simp] theorem State.setOut_cfg (n : TalkNo) (t : Option OutTalk) : (s.setOut n t).cfg = s.cfg := rfl
@[simp] theorem State.setOut_mixes (n : TalkNo) (t : Option OutTalk) : (s.setOut n t).mixes = s.mixes := rfl
@[simp] theorem State.setOut_routes (n : TalkNo) (t : Option OutTalk) : (s.setOut n t).routes = s.routes := rfl
@[simp] theorem State.setOut_talks (n : TalkNo) (t : Option OutTalk) : (s.setOut n t).talks = s.talks := rfl
@[simp] theorem State.setOut_outTalks (n : TalkNo) (t : Option OutTalk) : (s.setOut n t).outTalks = s.outTalks.set n t := rfl
@[simp] theorem State.setOut_roster (n : TalkNo) (t : Option OutTalk) : (s.setOut n t).roster = s.roster := rfl
@[simp] theorem State.setOut_presenceDue (n : TalkNo) (t : Option OutTalk) : (s.setOut n t).presenceDue = s.presenceDue := rfl
@[simp] theorem State.setOut_sends (n : TalkNo) (t : Option OutTalk) : (s.setOut n t).sends = s.sends := rfl
@[simp] theorem State.setOut_sched (n : TalkNo) (t : Option OutTalk) : (s.setOut n t).sched = s.sched := rfl
@[simp] theorem State.setOut_listens (n : TalkNo) (t : Option OutTalk) : (s.setOut n t).listens = s.listens := rfl
@[simp] theorem State.setOut_ports (n : TalkNo) (t : Option OutTalk) : (s.setOut n t).ports = s.ports := rfl
@[simp] theorem State.setOut_audio (n : TalkNo) (t : Option OutTalk) : (s.setOut n t).audio = s.audio := rfl
@[simp] theorem State.setOut_ring (n : TalkNo) (t : Option OutTalk) : (s.setOut n t).ring = s.ring := rfl
@[simp] theorem State.setOut_counters (n : TalkNo) (t : Option OutTalk) : (s.setOut n t).counters = s.counters := rfl
@[simp] theorem State.setOut_events (n : TalkNo) (t : Option OutTalk) : (s.setOut n t).events = s.events := rfl
@[simp] theorem State.setOut_response (n : TalkNo) (t : Option OutTalk) : (s.setOut n t).response = s.response := rfl
@[simp] theorem State.setOut_selected (n : TalkNo) (t : Option OutTalk) : (s.setOut n t).selected = s.selected := rfl
@[simp] theorem State.setOut_frameReply (n : TalkNo) (t : Option OutTalk) : (s.setOut n t).frameReply = s.frameReply := rfl
@[simp] theorem State.setOut_choices (n : TalkNo) (t : Option OutTalk) : (s.setOut n t).choices = s.choices := rfl

/-! ### State.setPort -/

@[simp] theorem State.setPort_pending (k : PortNo) (p : Port) : (s.setPort k p).pending = s.pending := rfl
@[simp] theorem State.setPort_clock (k : PortNo) (p : Port) : (s.setPort k p).clock = s.clock := rfl
@[simp] theorem State.setPort_mode (k : PortNo) (p : Port) : (s.setPort k p).mode = s.mode := rfl
@[simp] theorem State.setPort_cfg (k : PortNo) (p : Port) : (s.setPort k p).cfg = s.cfg := rfl
@[simp] theorem State.setPort_mixes (k : PortNo) (p : Port) : (s.setPort k p).mixes = s.mixes := rfl
@[simp] theorem State.setPort_routes (k : PortNo) (p : Port) : (s.setPort k p).routes = s.routes := rfl
@[simp] theorem State.setPort_talks (k : PortNo) (p : Port) : (s.setPort k p).talks = s.talks := rfl
@[simp] theorem State.setPort_outTalks (k : PortNo) (p : Port) : (s.setPort k p).outTalks = s.outTalks := rfl
@[simp] theorem State.setPort_roster (k : PortNo) (p : Port) : (s.setPort k p).roster = s.roster := rfl
@[simp] theorem State.setPort_presenceDue (k : PortNo) (p : Port) : (s.setPort k p).presenceDue = s.presenceDue := rfl
@[simp] theorem State.setPort_sends (k : PortNo) (p : Port) : (s.setPort k p).sends = s.sends := rfl
@[simp] theorem State.setPort_sched (k : PortNo) (p : Port) : (s.setPort k p).sched = s.sched := rfl
@[simp] theorem State.setPort_listens (k : PortNo) (p : Port) : (s.setPort k p).listens = s.listens := rfl
@[simp] theorem State.setPort_ports (k : PortNo) (p : Port) : (s.setPort k p).ports = s.ports.set k p := rfl
@[simp] theorem State.setPort_audio (k : PortNo) (p : Port) : (s.setPort k p).audio = s.audio := rfl
@[simp] theorem State.setPort_ring (k : PortNo) (p : Port) : (s.setPort k p).ring = s.ring := rfl
@[simp] theorem State.setPort_counters (k : PortNo) (p : Port) : (s.setPort k p).counters = s.counters := rfl
@[simp] theorem State.setPort_events (k : PortNo) (p : Port) : (s.setPort k p).events = s.events := rfl
@[simp] theorem State.setPort_response (k : PortNo) (p : Port) : (s.setPort k p).response = s.response := rfl
@[simp] theorem State.setPort_selected (k : PortNo) (p : Port) : (s.setPort k p).selected = s.selected := rfl
@[simp] theorem State.setPort_frameReply (k : PortNo) (p : Port) : (s.setPort k p).frameReply = s.frameReply := rfl
@[simp] theorem State.setPort_choices (k : PortNo) (p : Port) : (s.setPort k p).choices = s.choices := rfl

/-! ### State.setSend -/

@[simp] theorem State.setSend_pending (n : SourceNo) (l : List Subscriber) : (s.setSend n l).pending = s.pending := rfl
@[simp] theorem State.setSend_clock (n : SourceNo) (l : List Subscriber) : (s.setSend n l).clock = s.clock := rfl
@[simp] theorem State.setSend_mode (n : SourceNo) (l : List Subscriber) : (s.setSend n l).mode = s.mode := rfl
@[simp] theorem State.setSend_cfg (n : SourceNo) (l : List Subscriber) : (s.setSend n l).cfg = s.cfg := rfl
@[simp] theorem State.setSend_mixes (n : SourceNo) (l : List Subscriber) : (s.setSend n l).mixes = s.mixes := rfl
@[simp] theorem State.setSend_routes (n : SourceNo) (l : List Subscriber) : (s.setSend n l).routes = s.routes := rfl
@[simp] theorem State.setSend_talks (n : SourceNo) (l : List Subscriber) : (s.setSend n l).talks = s.talks := rfl
@[simp] theorem State.setSend_outTalks (n : SourceNo) (l : List Subscriber) : (s.setSend n l).outTalks = s.outTalks := rfl
@[simp] theorem State.setSend_roster (n : SourceNo) (l : List Subscriber) : (s.setSend n l).roster = s.roster := rfl
@[simp] theorem State.setSend_presenceDue (n : SourceNo) (l : List Subscriber) : (s.setSend n l).presenceDue = s.presenceDue := rfl
@[simp] theorem State.setSend_sends (n : SourceNo) (l : List Subscriber) : (s.setSend n l).sends = s.sends.set n l := rfl
@[simp] theorem State.setSend_sched (n : SourceNo) (l : List Subscriber) : (s.setSend n l).sched = s.sched := rfl
@[simp] theorem State.setSend_listens (n : SourceNo) (l : List Subscriber) : (s.setSend n l).listens = s.listens := rfl
@[simp] theorem State.setSend_ports (n : SourceNo) (l : List Subscriber) : (s.setSend n l).ports = s.ports := rfl
@[simp] theorem State.setSend_audio (n : SourceNo) (l : List Subscriber) : (s.setSend n l).audio = s.audio := rfl
@[simp] theorem State.setSend_ring (n : SourceNo) (l : List Subscriber) : (s.setSend n l).ring = s.ring := rfl
@[simp] theorem State.setSend_counters (n : SourceNo) (l : List Subscriber) : (s.setSend n l).counters = s.counters := rfl
@[simp] theorem State.setSend_events (n : SourceNo) (l : List Subscriber) : (s.setSend n l).events = s.events := rfl
@[simp] theorem State.setSend_response (n : SourceNo) (l : List Subscriber) : (s.setSend n l).response = s.response := rfl
@[simp] theorem State.setSend_selected (n : SourceNo) (l : List Subscriber) : (s.setSend n l).selected = s.selected := rfl
@[simp] theorem State.setSend_frameReply (n : SourceNo) (l : List Subscriber) : (s.setSend n l).frameReply = s.frameReply := rfl
@[simp] theorem State.setSend_choices (n : SourceNo) (l : List Subscriber) : (s.setSend n l).choices = s.choices := rfl

/-! ### State.setRing -/

@[simp] theorem State.setRing_pending (r : Ring) : (s.setRing r).pending = s.pending := rfl
@[simp] theorem State.setRing_clock (r : Ring) : (s.setRing r).clock = s.clock := rfl
@[simp] theorem State.setRing_mode (r : Ring) : (s.setRing r).mode = s.mode := rfl
@[simp] theorem State.setRing_cfg (r : Ring) : (s.setRing r).cfg = s.cfg := rfl
@[simp] theorem State.setRing_mixes (r : Ring) : (s.setRing r).mixes = s.mixes := rfl
@[simp] theorem State.setRing_routes (r : Ring) : (s.setRing r).routes = s.routes := rfl
@[simp] theorem State.setRing_talks (r : Ring) : (s.setRing r).talks = s.talks := rfl
@[simp] theorem State.setRing_outTalks (r : Ring) : (s.setRing r).outTalks = s.outTalks := rfl
@[simp] theorem State.setRing_roster (r : Ring) : (s.setRing r).roster = s.roster := rfl
@[simp] theorem State.setRing_presenceDue (r : Ring) : (s.setRing r).presenceDue = s.presenceDue := rfl
@[simp] theorem State.setRing_sends (r : Ring) : (s.setRing r).sends = s.sends := rfl
@[simp] theorem State.setRing_sched (r : Ring) : (s.setRing r).sched = s.sched := rfl
@[simp] theorem State.setRing_listens (r : Ring) : (s.setRing r).listens = s.listens := rfl
@[simp] theorem State.setRing_ports (r : Ring) : (s.setRing r).ports = s.ports := rfl
@[simp] theorem State.setRing_audio (r : Ring) : (s.setRing r).audio = s.audio := rfl
@[simp] theorem State.setRing_ring (r : Ring) : (s.setRing r).ring = r := rfl
@[simp] theorem State.setRing_counters (r : Ring) : (s.setRing r).counters = s.counters := rfl
@[simp] theorem State.setRing_events (r : Ring) : (s.setRing r).events = s.events := rfl
@[simp] theorem State.setRing_response (r : Ring) : (s.setRing r).response = s.response := rfl
@[simp] theorem State.setRing_selected (r : Ring) : (s.setRing r).selected = s.selected := rfl
@[simp] theorem State.setRing_frameReply (r : Ring) : (s.setRing r).frameReply = s.frameReply := rfl
@[simp] theorem State.setRing_choices (r : Ring) : (s.setRing r).choices = s.choices := rfl

end Sys2Proof.Machine
end

