-- ==== Sys2Proof/Laws/Frames.lean ====
section
/-!
SUPPORT. What the shared operations of the route table, the listen table, the arbiter and the talker can change: the
five tables of the talks, the notes, the counters and the events, and nothing else. One lemma per operation; a caller
cites it instead of unfolding the operation.
-/

namespace Sys2Proof.Machine

/-- Nothing but routes, talks, outgoing talks, listen entries, the note queue, counters and events differs. -/
structure State.TalkStep (s t : State) : Prop where
  pending : t.pending = s.pending
  clock : t.clock = s.clock
  mode : t.mode = s.mode
  cfg : t.cfg = s.cfg
  mixes : t.mixes = s.mixes
  roster : t.roster = s.roster
  presenceDue : t.presenceDue = s.presenceDue
  sends : t.sends = s.sends
  queues : t.sched.queues = s.sched.queues
  last : t.sched.last = s.sched.last
  ports : t.ports = s.ports
  audio : t.audio = s.audio
  ring : t.ring = s.ring
  response : t.response = s.response
  selected : t.selected = s.selected
  frameReply : t.frameReply = s.frameReply
  choices : t.choices = s.choices

/-- Nothing but listen entries, the note queue and counters differs. -/
structure State.ListenStep (s t : State) : Prop extends State.TalkStep s t where
  routes : t.routes = s.routes
  talks : t.talks = s.talks
  outTalks : t.outTalks = s.outTalks
  events : t.events = s.events

variable {s t u : State}

theorem State.TalkStep.refl (s : State) : s.TalkStep s :=
  ⟨rfl, rfl, rfl, rfl, rfl, rfl, rfl, rfl, rfl, rfl, rfl, rfl, rfl, rfl, rfl, rfl, rfl⟩

theorem State.TalkStep.trans (h : s.TalkStep t) (g : t.TalkStep u) : s.TalkStep u where
  pending := g.pending.trans h.pending
  clock := g.clock.trans h.clock
  mode := g.mode.trans h.mode
  cfg := g.cfg.trans h.cfg
  mixes := g.mixes.trans h.mixes
  roster := g.roster.trans h.roster
  presenceDue := g.presenceDue.trans h.presenceDue
  sends := g.sends.trans h.sends
  queues := g.queues.trans h.queues
  last := g.last.trans h.last
  ports := g.ports.trans h.ports
  audio := g.audio.trans h.audio
  ring := g.ring.trans h.ring
  response := g.response.trans h.response
  selected := g.selected.trans h.selected
  frameReply := g.frameReply.trans h.frameReply
  choices := g.choices.trans h.choices

theorem State.ListenStep.refl (s : State) : s.ListenStep s := ⟨.refl s, rfl, rfl, rfl, rfl⟩

theorem State.ListenStep.trans (h : s.ListenStep t) (g : t.ListenStep u) : s.ListenStep u where
  toTalkStep := h.toTalkStep.trans g.toTalkStep
  routes := g.routes.trans h.routes
  talks := g.talks.trans h.talks
  outTalks := g.outTalks.trans h.outTalks
  events := g.events.trans h.events

/-- A fold of steps is a step. -/
theorem foldl_talkStep {α : Type} (f : State → α → State) (hf : ∀ (s : State) (a : α), s.TalkStep (f s a)) (l : List α) :
    ∀ s : State, s.TalkStep (l.foldl f s) := by
  induction l with
  | nil => exact fun s => .refl s
  | cons a l ih => exact fun s => (hf s a).trans (ih (f s a))

/-- A fold of listen steps is a listen step. -/
theorem foldl_listenStep {α : Type} (f : State → α → State) (hf : ∀ (s : State) (a : α), s.ListenStep (f s a)) (l : List α) :
    ∀ s : State, s.ListenStep (l.foldl f s) := by
  induction l with
  | nil => exact fun s => .refl s
  | cons a l ih => exact fun s => (hf s a).trans (ih (f s a))

/-! ### Elementary updates -/

theorem State.emit_talkStep (s : State) (e : Event) : s.TalkStep (s.emit e) := ⟨rfl, rfl, rfl, rfl, rfl, rfl, rfl, rfl, rfl, rfl, rfl, rfl, rfl, rfl, rfl, rfl, rfl⟩

theorem State.count_listenStep (s : State) (f : Counters → Counters) : s.ListenStep (s.count f) :=
  ⟨⟨rfl, rfl, rfl, rfl, rfl, rfl, rfl, rfl, rfl, rfl, rfl, rfl, rfl, rfl, rfl, rfl, rfl⟩, rfl, rfl, rfl, rfl⟩

theorem State.setListen_listenStep (s : State) (k : Fin 32) (e : Option ListenEntry) : s.ListenStep (s.setListen k e) :=
  ⟨⟨rfl, rfl, rfl, rfl, rfl, rfl, rfl, rfl, rfl, rfl, rfl, rfl, rfl, rfl, rfl, rfl, rfl⟩, rfl, rfl, rfl, rfl⟩

theorem State.setRoutes_talkStep (s : State) (m : Mix) (r : List Route) : s.TalkStep (s.setRoutes m r) :=
  ⟨rfl, rfl, rfl, rfl, rfl, rfl, rfl, rfl, rfl, rfl, rfl, rfl, rfl, rfl, rfl, rfl, rfl⟩

theorem State.setTalks_talkStep (s : State) (m : Mix) (r : MixTalks) : s.TalkStep (s.setTalks m r) :=
  ⟨rfl, rfl, rfl, rfl, rfl, rfl, rfl, rfl, rfl, rfl, rfl, rfl, rfl, rfl, rfl, rfl, rfl⟩

theorem State.setOut_talkStep (s : State) (n : TalkNo) (r : Option OutTalk) : s.TalkStep (s.setOut n r) :=
  ⟨rfl, rfl, rfl, rfl, rfl, rfl, rfl, rfl, rfl, rfl, rfl, rfl, rfl, rfl, rfl, rfl, rfl⟩

/-! ### Notes and listen entries -/

/-- All that handing a note can do (R135). -/
theorem State.hand_cases (s : State) (n : Note) :
    (s.mode = .active ∧ s.sched.notes.length < 16 ∧ s.hand n = { s with sched := { s.sched with notes := s.sched.notes ++ [n] } }) ∨
    (s.mode = .active ∧ 16 ≤ s.sched.notes.length ∧ s.hand n = s.count Counters.incNoteDrop) ∨
    (s.mode ≠ .active ∧ s.hand n = s) := by
  unfold State.hand
  cases h : s.mode <;> simp [Config.maxNotes]
  by_cases g : s.sched.notes.length < 16
  · simp [g]
  · simp [g]; omega

theorem State.hand_listenStep (s : State) (n : Note) : s.ListenStep (s.hand n) := by
  rcases s.hand_cases n with ⟨-, -, h⟩ | ⟨-, -, h⟩ | ⟨-, h⟩ <;> rw [h]
  · exact ⟨⟨rfl, rfl, rfl, rfl, rfl, rfl, rfl, rfl, rfl, rfl, rfl, rfl, rfl, rfl, rfl, rfl, rfl⟩, rfl, rfl, rfl, rfl⟩
  · exact s.count_listenStep _
  · exact .refl s

theorem State.handJoin_listenStep (s : State) (k : Fin 32) : s.ListenStep (s.handJoin k) := by
  unfold State.handJoin
  split
  · exact .refl s
  · exact (s.setListen_listenStep _ _).trans (State.hand_listenStep _ _)

theorem State.createListen_listenStep (s : State) (r : Remote) (n : Nat) (c : Cls) : s.ListenStep (s.createListen r n c) := by
  unfold State.createListen
  split
  · exact .refl s
  · dsimp only
    split
    · exact s.setListen_listenStep _ _
    · exact (s.setListen_listenStep _ _).trans (State.handJoin_listenStep _ _)

theorem State.releaseListen_listenStep (s : State) (k : Fin 32) : s.ListenStep (s.releaseListen k) := by
  unfold State.releaseListen
  split
  · exact .refl s
  · exact (s.setListen_listenStep _ _).trans (State.hand_listenStep _ _)

theorem State.updateListen_listenStep (s : State) (k : Fin 32) (n : Nat) (c : Cls) : s.ListenStep (s.updateListen k n c) := by
  unfold State.updateListen
  split
  · exact .refl s
  · dsimp only
    split
    · exact s.setListen_listenStep _ _
    · exact (s.setListen_listenStep _ _).trans (State.handJoin_listenStep _ _)

theorem State.absentListen_listenStep (st : Station) (s : State) (k : Fin 32) : s.ListenStep (State.absentListen st s k) := by
  unfold State.absentListen
  split
  · exact .refl s
  · split
    · exact s.setListen_listenStep _ _
    · exact .refl s

theorem State.listenAbsence_listenStep (s : State) (st : Station) : s.ListenStep (s.listenAbsence st) :=
  foldl_listenStep _ (State.absentListen_listenStep st) _ s

theorem State.returnListen_listenStep (st : Station) (s : State) (k : Fin 32) : s.ListenStep (State.returnListen st s k) := by
  unfold State.returnListen
  split
  · exact .refl s
  · split
    · exact (s.setListen_listenStep _ _).trans (State.handJoin_listenStep _ _)
    · exact .refl s

theorem State.listenReturn_listenStep (s : State) (st : Station) : s.ListenStep (s.listenReturn st) :=
  foldl_listenStep _ (State.returnListen_listenStep st) _ s

theorem State.takeBurst_listenStep (s : State) (o : Station) (i : Fin 32) (q : Seq) (b : Block) :
    s.ListenStep (s.takeBurst o i q b) := by
  unfold State.takeBurst
  split
  · split
    · exact .refl s
    · split
      · exact .refl s
      · exact (s.setListen_listenStep _ _).trans (State.count_listenStep _ _)
  · exact .refl s

/-! ### Routes -/

theorem State.tellRelease_listenStep (s : State) (r : Remote) : s.ListenStep (s.tellRelease r) := by
  unfold State.tellRelease
  split
  · split
    · exact s.releaseListen_listenStep _
    · exact .refl s
  · exact .refl s

theorem State.tellCreate_listenStep (s : State) (r : Remote) : s.ListenStep (s.tellCreate r) := by
  unfold State.tellCreate
  split
  · exact s.createListen_listenStep _ _ _
  · exact .refl s

theorem State.tellUpdate_listenStep (s : State) (r : Remote) : s.ListenStep (s.tellUpdate r) := by
  unfold State.tellUpdate
  split
  · exact s.updateListen_listenStep _ _ _
  · exact .refl s

/-- What the listen table is told changes listen entries, notes and counters only. -/
theorem State.tellListens_listenStep (s : State) (rs : List Remote) : s.ListenStep (s.tellListens rs) :=
  ((foldl_listenStep _ State.tellRelease_listenStep rs s).trans
    (foldl_listenStep _ State.tellCreate_listenStep rs _)).trans (foldl_listenStep _ State.tellUpdate_listenStep rs _)

/-- A successful hold changes the routes of its mix and what the listen table is told; the talks stay as they are (R10). -/
theorem State.hold_spec {m : Mix} {a : SourceAddr} {c : Cls} (h : s.hold m a c = some t) :
    s.TalkStep t ∧ t.talks = s.talks ∧ t.outTalks = s.outTalks ∧ t.events = s.events ∧
    ∃ i, s.input a = some i ∧ s.canHold m i 0 = true ∧
      t.routes = s.routes.set m (addHolder s.cfg (s.holderClasses s.talks[m].granted i ++ [c]) s.routes[m] i) := by
  unfold State.hold at h
  split at h
  · cases h
  · rename_i i hi
    split at h
    · rename_i hc
      cases h
      have g := State.tellListens_listenStep
        (s.setRoutes m (addHolder s.cfg (s.holderClasses s.talks[m].granted i ++ [c]) s.routes[m] i)) i.remotes
      exact ⟨(s.setRoutes_talkStep _ _).trans g.toTalkStep, g.talks, g.outTalks, g.events, i, hi, hc, g.routes⟩
    · cases h

/-- A release changes the routes of its mix and what the listen table is told (R11). -/
theorem State.release_spec (s : State) (m : Mix) (a : SourceAddr) :
    s.TalkStep (s.release m a) ∧ (s.release m a).talks = s.talks ∧ (s.release m a).outTalks = s.outTalks ∧
      (s.release m a).events = s.events ∧
    (s.release m a).routes = match s.input a with
      | none => s.routes
      | some i => s.routes.set m (dropHolder s.cfg (s.holderClasses s.talks[m].granted i) s.routes[m] i) := by
  unfold State.release
  cases hi : s.input a with
  | none => exact ⟨.refl s, rfl, rfl, rfl, rfl⟩
  | some i =>
    have g := State.tellListens_listenStep
      (s.setRoutes m (dropHolder s.cfg (s.holderClasses s.talks[m].granted i) s.routes[m] i)) i.remotes
    exact ⟨(s.setRoutes_talkStep _ _).trans g.toTalkStep, g.talks, g.outTalks, g.events, g.routes⟩

/-- A successful exchange changes the routes of its mix and what the listen table is told (R12). -/
theorem State.exchange_spec {m : Mix} {v : InTalk} {rest : List InTalk} {a : SourceAddr} {c : Cls}
    (h : s.exchange m v rest a c = some t) :
    s.TalkStep t ∧ t.talks = s.talks ∧ t.outTalks = s.outTalks ∧ t.events = s.events := by
  unfold State.exchange at h
  split at h
  · dsimp only at h
    split at h
    · cases h
      have g := fun (x : State) (r : List Remote) => x.tellListens_listenStep r
      exact ⟨(s.setRoutes_talkStep _ _).trans (g _ _).toTalkStep, (g _ _).talks, (g _ _).outTalks, (g _ _).events⟩
    · split at h
      · cases h
        have g := fun (x : State) (r : List Remote) => x.tellListens_listenStep r
        exact ⟨((s.setRoutes_talkStep _ _).trans (State.setRoutes_talkStep _ _ _)).trans (g _ _).toTalkStep,
          (g _ _).talks, (g _ _).outTalks, (g _ _).events⟩
      · cases h
  · cases h

/-! ### Replies -/

theorem State.putSummed_talkStep (s : State) (n : TalkNo) (b : Summary) (x : OutTalk) : s.TalkStep (s.putSummed n b x) := by
  unfold State.putSummed
  dsimp only
  split
  · exact s.setOut_talkStep _ _
  · exact (s.setOut_talkStep _ _).trans (State.emit_talkStep _ _)

theorem State.takeReply_talkStep (s : State) (n : TalkNo) (r : Reply) : s.TalkStep (s.takeReply n r) := by
  unfold State.takeReply
  split
  · exact (s.count_listenStep _).toTalkStep
  · split
    · exact s.putSummed_talkStep _ _ _
    · exact (s.count_listenStep _).toTalkStep

/-- A reply leaves routes, incoming talks and listen entries alone (R78). -/
theorem State.takeReply_tables (s : State) (n : TalkNo) (r : Reply) :
    (s.takeReply n r).routes = s.routes ∧ (s.takeReply n r).talks = s.talks ∧ (s.takeReply n r).listens = s.listens := by
  unfold State.takeReply State.putSummed
  dsimp only
  split
  · exact ⟨rfl, rfl, rfl⟩
  · split
    · split <;> exact ⟨rfl, rfl, rfl⟩
    · exact ⟨rfl, rfl, rfl⟩

theorem State.dropReplies_talkStep (st : Station) (s : State) (n : TalkNo) : s.TalkStep (State.dropReplies st s n) := by
  unfold State.dropReplies
  split
  · exact .refl s
  · exact s.putSummed_talkStep _ _ _

theorem State.talkerAbsence_talkStep (s : State) (st : Station) : s.TalkStep (s.talkerAbsence st) :=
  foldl_talkStep _ (State.dropReplies_talkStep st) _ s

theorem State.answer_talkStep (s : State) (o : Station) (n : TalkNo) (m : Fin 32) (a : TalkAnswer) (r : Reason) :
    s.TalkStep (s.answer o n m a r) := by
  unfold State.answer
  split
  · exact s.takeReply_talkStep _ _
  · exact (s.hand_listenStep _).toTalkStep

/-- An answer leaves routes and incoming talks alone (R63). -/
theorem State.answer_tables (s : State) (o : Station) (n : TalkNo) (m : Fin 32) (a : TalkAnswer) (r : Reason) :
    (s.answer o n m a r).routes = s.routes ∧ (s.answer o n m a r).talks = s.talks := by
  unfold State.answer
  split
  · exact ⟨(s.takeReply_tables _ _).1, (s.takeReply_tables _ _).2.1⟩
  · exact ⟨(s.hand_listenStep _).routes, (s.hand_listenStep _).talks⟩

/-- A reply, an answer and a removal leave each talk number's holder and its origin alone (R62, R78). -/
theorem State.takeReply_origin (s : State) (n : TalkNo) (r : Reply) (k : TalkNo) :
    (s.takeReply n r).outTalks[k].map OutTalk.origin = s.outTalks[k].map OutTalk.origin := by
  unfold State.takeReply
  split
  · rfl
  · rename_i x hx
    split
    · have same : ∀ o : State, o.outTalks = (s.setOut n (some ({ x.addReply r with heard := true } : OutTalk).summed)).outTalks →
          o.outTalks[k].map OutTalk.origin = s.outTalks[k].map OutTalk.origin := by
        intro o ho
        have kept : (({ x.addReply r with heard := true } : OutTalk).summed).origin = x.origin := by
          unfold OutTalk.addReply
          split
          · rfl
          · split <;> rfl
        rw [ho]
        by_cases hk : n = k
        · subst hk
          simp [State.setOut, kept, hx]
        · have : n.val ≠ k.val := fun h => hk (Fin.ext h)
          simp [State.setOut, this]
      unfold State.putSummed
      dsimp only
      split <;> exact same _ rfl
    · rfl

theorem State.answer_origin (s : State) (o : Station) (n : TalkNo) (m : Fin 32) (a : TalkAnswer) (r : Reason) (k : TalkNo) :
    (s.answer o n m a r).outTalks[k].map OutTalk.origin = s.outTalks[k].map OutTalk.origin := by
  unfold State.answer
  split
  · exact s.takeReply_origin _ _ _
  · exact congrArg (fun v : Vector (Option OutTalk) 32 => (v[k]).map OutTalk.origin) (s.hand_listenStep _).outTalks

theorem State.removeWaiting_origin (m : Mix) (r : Reason) (s : State) (x : InTalk) (k : TalkNo) :
    (State.removeWaiting m r s x).outTalks[k].map OutTalk.origin = s.outTalks[k].map OutTalk.origin :=
  State.answer_origin _ _ _ _ _ _ _

theorem State.removeGranted_origin (m : Mix) (r : Reason) (c : Cause) (s : State) (x : InTalk) (k : TalkNo) :
    (State.removeGranted m r c s x).outTalks[k].map OutTalk.origin = s.outTalks[k].map OutTalk.origin := by
  refine (State.answer_origin _ _ _ _ _ _ _).trans ?_
  refine congrArg (fun v : Vector (Option OutTalk) 32 => (v[k]).map OutTalk.origin) ?_
  unfold State.dropGranted State.incoming
  rw [State.emit_outTalks, (State.release_spec _ _ _).2.2.1]
  rfl

theorem State.answerFor_talkStep (s : State) (m : Mix) (x : InTalk) (a : TalkAnswer) (r : Reason) :
    s.TalkStep (s.answerFor m x a r) := s.answer_talkStep _ _ _ _ _

theorem State.incoming_talkStep (s : State) (m : Mix) (x : InTalk) (g : Bool) (c : Cause) :
    s.TalkStep (s.incoming m x g c) := s.emit_talkStep _

/-! ### The arbiter -/

theorem State.fillFrom_talkStep (m : Mix) (ws : List InTalk) : ∀ s : State, s.TalkStep (State.fillFrom m ws s) := by
  induction ws with
  | nil => exact fun s => .refl s
  | cons w ws ih =>
    intro s
    unfold State.fillFrom
    split
    · dsimp only
      split
      · rename_i held hh
        exact ((((s.setTalks_talkStep _ _).trans (State.hold_spec hh).1).trans (State.setTalks_talkStep _ _ _)).trans
          ((State.answerFor_talkStep _ _ _ _ _).trans (State.incoming_talkStep _ _ _ _ _))).trans (ih _)
      · exact ((s.setTalks_talkStep _ _).trans (State.answerFor_talkStep _ _ _ _ _)).trans (ih _)
    · exact .refl s

theorem State.fill_talkStep (s : State) (m : Mix) : s.TalkStep (s.fill m) := State.fillFrom_talkStep m _ s

theorem State.dropGranted_talkStep (s : State) (m : Mix) (x : InTalk) (c : Cause) : s.TalkStep (s.dropGranted m x c) :=
  ((s.setTalks_talkStep _ _).trans (State.release_spec _ _ _).1).trans (State.incoming_talkStep _ _ _ _ _)

theorem State.dropWaiting_talkStep (s : State) (m : Mix) (x : InTalk) : s.TalkStep (s.dropWaiting m x) :=
  s.setTalks_talkStep _ _

theorem State.grantTalk_talkStep (s : State) (m : Mix) (q : TalkRequest) : s.TalkStep (s.grantTalk m q) := by
  unfold State.grantTalk
  split
  · rename_i held hh
    exact (((State.hold_spec hh).1.trans (State.setTalks_talkStep _ _ _)).trans (State.answerFor_talkStep _ _ _ _ _)).trans
      (State.incoming_talkStep _ _ _ _ _)
  · exact s.answer_talkStep _ _ _ _ _

theorem State.preempt_talkStep (s : State) (m : Mix) (q : TalkRequest) (v : InTalk) : s.TalkStep (s.preempt m q v) := by
  unfold State.preempt
  dsimp only
  split
  · rename_i held hh
    exact (((((State.exchange_spec hh).1.trans (State.setTalks_talkStep _ _ _)).trans
      (State.answerFor_talkStep _ _ _ _ _)).trans (State.answerFor_talkStep _ _ _ _ _)).trans
      (State.incoming_talkStep _ _ _ _ _)).trans (State.incoming_talkStep _ _ _ _ _)
  · exact s.answer_talkStep _ _ _ _ _

theorem State.waitTalk_talkStep (s : State) (m : Mix) (q : TalkRequest) : s.TalkStep (s.waitTalk m q) :=
  (s.setTalks_talkStep _ _).trans (State.answerFor_talkStep _ _ _ _ _)

theorem State.newTalk_talkStep (s : State) (m : Mix) (q : TalkRequest) : s.TalkStep (s.newTalk m q) := by
  unfold State.newTalk
  split
  · exact s.answer_talkStep _ _ _ _ _
  · split
    · exact s.grantTalk_talkStep _ _
    · split
      · split
        · exact s.preempt_talkStep _ _ _
        · exact s.waitTalk_talkStep _ _
      · exact s.waitTalk_talkStep _ _

theorem State.endRecord_talkStep (s : State) (m : Mix) (o : Station) (n : TalkNo) : s.TalkStep (s.endRecord m o n) := by
  unfold State.endRecord
  split
  · exact (s.dropGranted_talkStep _ _ _).trans (State.fill_talkStep _ _)
  · split
    · exact s.dropWaiting_talkStep _ _
    · exact .refl s

theorem State.takeTalkMix_talkStep (q : TalkRequest) (s : State) (m : Mix) : s.TalkStep (State.takeTalkMix q s m) := by
  unfold State.takeTalkMix
  dsimp only
  split
  · split
    · exact (s.setTalks_talkStep _ _).trans (State.answer_talkStep _ _ _ _ _ _)
    · exact (s.endRecord_talkStep _ _ _).trans (State.newTalk_talkStep _ _ _)
  · split
    · split
      · exact (s.setTalks_talkStep _ _).trans (State.answer_talkStep _ _ _ _ _ _)
      · exact (s.endRecord_talkStep _ _ _).trans (State.newTalk_talkStep _ _ _)
    · exact s.newTalk_talkStep _ _

/-- A TALK changes the tables of the talks, notes, counters and events only (R50). -/
theorem State.takeTalk_talkStep (s : State) (all : Bool) (q : TalkRequest) (k : TargetKind) (v : Fin 32) :
    s.TalkStep (s.takeTalk all q k v) := by
  unfold State.takeTalk
  split
  · split
    · exact (s.count_listenStep _).toTalkStep
    · split
      · exact State.takeTalkMix_talkStep _ _ _
      · exact s.answer_talkStep _ _ _ _ _
  · split
    · exact foldl_talkStep _ (State.takeTalkMix_talkStep q) _ s
    · split
      · exact (s.count_listenStep _).toTalkStep
      · exact s.answer_talkStep _ _ _ _ _

theorem State.takeTalkEnd_talkStep (s : State) (o : Station) (n : TalkNo) : s.TalkStep (s.takeTalkEnd o n) :=
  foldl_talkStep _ (fun s m => s.endRecord_talkStep m o n) _ s

theorem State.lapse_talkStep (s : State) (m : Mix) (x : InTalk) (g : Bool) : s.TalkStep (s.lapse m x g) := by
  unfold State.lapse
  split
  · exact ((s.dropGranted_talkStep _ _ _).trans (State.answerFor_talkStep _ _ _ _ _)).trans (State.fill_talkStep _ _)
  · exact (s.dropWaiting_talkStep _ _).trans (State.answerFor_talkStep _ _ _ _ _)

theorem State.removeWaiting_talkStep (m : Mix) (r : Reason) (s : State) (x : InTalk) :
    s.TalkStep (State.removeWaiting m r s x) := (s.dropWaiting_talkStep _ _).trans (State.answerFor_talkStep _ _ _ _ _)

theorem State.removeGranted_talkStep (m : Mix) (r : Reason) (c : Cause) (s : State) (x : InTalk) :
    s.TalkStep (State.removeGranted m r c s x) :=
  (s.dropGranted_talkStep _ _ _).trans (State.answerFor_talkStep _ _ _ _ _)

theorem State.removeTalker_talkStep (st : Station) (s : State) (m : Mix) : s.TalkStep (State.removeTalker st s m) :=
  (foldl_talkStep _ (State.removeWaiting_talkStep m _) _ s).trans (foldl_talkStep _ (State.removeGranted_talkStep m _ _) _ _)

theorem State.arbiterAbsence_talkStep (s : State) (st : Station) : s.TalkStep (s.arbiterAbsence st) :=
  (foldl_talkStep _ (State.removeTalker_talkStep st) _ s).trans (foldl_talkStep _ State.fill_talkStep _ _)

theorem State.clearReturnMix_talkStep (s : State) (k : PortNo) : s.TalkStep (s.clearReturnMix k) :=
  (foldl_talkStep _ (State.removeWaiting_talkStep _ _) _ s).trans (foldl_talkStep _ (State.removeGranted_talkStep _ _ _) _ _)

/-! ### The talker -/

theorem State.toRing_talkStep (s : State) (st : Station) (b : NoteBody) : s.TalkStep (s.toRing st b) := by
  unfold State.toRing
  split
  · exact .refl s
  · exact (s.hand_listenStep _).toTalkStep

theorem State.sendTalk_talkStep (s : State) (n : TalkNo) (x : OutTalk) : s.TalkStep (s.sendTalk n x) := by
  unfold State.sendTalk
  dsimp only
  split
  · exact (s.takeTalk_talkStep _ _ _ _).trans (State.toRing_talkStep _ _ _)
  · exact s.toRing_talkStep _ _

theorem State.sendTalkEnd_talkStep (s : State) (n : TalkNo) (x : OutTalk) : s.TalkStep (s.sendTalkEnd n x) := by
  unfold State.sendTalkEnd
  dsimp only
  split
  · exact (s.takeTalkEnd_talkStep _ _).trans (State.toRing_talkStep _ _ _)
  · exact s.toRing_talkStep _ _

theorem State.createTalk_talkStep (s : State) (n : TalkNo) (x : OutTalk) : s.TalkStep (s.createTalk n x) :=
  ((s.setOut_talkStep _ _).trans (State.emit_talkStep _ _)).trans (State.sendTalk_talkStep _ _ _)

theorem State.releaseTalk_talkStep (s : State) (n : TalkNo) : s.TalkStep (s.releaseTalk n) := by
  unfold State.releaseTalk
  split
  · exact .refl s
  · exact ((s.sendTalkEnd_talkStep _ _).trans (State.emit_talkStep _ _)).trans (State.setOut_talkStep _ _ _)

theorem State.releasePortTalk_talkStep (s : State) (k : PortNo) : s.TalkStep (s.releasePortTalk k) := by
  unfold State.releasePortTalk
  split
  · exact s.releaseTalk_talkStep _
  · exact .refl s

theorem State.portTalkOn_talkStep (s : State) (k : PortNo) : s.TalkStep (s.portTalkOn k) := by
  unfold State.portTalkOn
  split
  · split
    · exact (s.count_listenStep _).toTalkStep
    · split
      · exact (s.count_listenStep _).toTalkStep
      · exact s.createTalk_talkStep _ _
  · exact .refl s

/-! ### Every command completes -/

/-- No command faults and none is refused. -/
theorem exec_completes (c : Instr) (s : State) : ∃ t, exec c s = .next t := by
  cases c <;> exact ⟨_, rfl⟩

end Sys2Proof.Machine
end

