-- ==== Sys2Proof/Laws/Ring.lean ====
section
/-!
SUPPORT. What ring-out's word times can change: the symbol it carries, the insertion in flight, the insertion buffer
with its owed idle symbol, and the record of what left by the clock; and that the buffer only loses words at its front.
-/

namespace Sys2Proof.Machine

/-- Nothing but the insertion's remaining symbols, the front of the buffer, the owed idle symbol, ring-out's symbol and `swept` differs. -/
structure Ring.OutStep (r t : Ring) : Prop where
  status : t.status = r.status
  aligned : t.aligned = r.aligned
  alignedAt : t.alignedAt = r.alignedAt
  framing : t.framing = r.framing
  handOff : t.handOff = r.handOff
  buffer : t.buffer <:+ r.buffer
  message : t.insertion.map Insertion.message = r.insertion.map Insertion.message

variable {r t u : Ring}

theorem Ring.OutStep.refl (r : Ring) : r.OutStep r := ⟨rfl, rfl, rfl, rfl, rfl, List.suffix_refl _, rfl⟩

theorem Ring.OutStep.trans (h : r.OutStep t) (g : t.OutStep u) : r.OutStep u where
  status := g.status.trans h.status
  aligned := g.aligned.trans h.aligned
  alignedAt := g.alignedAt.trans h.alignedAt
  framing := g.framing.trans h.framing
  handOff := g.handOff.trans h.handOff
  buffer := g.buffer.trans h.buffer
  message := g.message.trans h.message

/-- Recording what left is part of the same change. -/
theorem Ring.OutStep.record (h : r.OutStep t) (l : List Symbol) : r.OutStep { t with swept := l } :=
  ⟨h.status, h.aligned, h.alignedAt, h.framing, h.handOff, h.buffer, h.message⟩

/-- An insertion in flight stays in flight, and none begins. -/
theorem Ring.OutStep.insertion_isSome (h : r.OutStep t) : t.insertion.isSome = r.insertion.isSome := by
  have := congrArg Option.isSome h.message
  simpa using this

/-- All that one word time of ring-out can do (R92, R97, R98). -/
theorem Ring.emit_cases (r : Ring) (x : Symbol) :
    (∃ m y ys, r.insertion = some ⟨m, y :: ys⟩ ∧ r.emit x = { r with out := y, insertion := some ⟨m, ys⟩ }) ∨
    (∃ m, r.insertion = some ⟨m, []⟩ ∧ r.emit x = { r with out := .idle }) ∨
    (r.insertion = none ∧ r.gapOwed = true ∧ r.emit x = { r with out := .idle, gapOwed := false }) ∨
    (∃ h hs, r.insertion = none ∧ r.gapOwed = false ∧ r.buffer = h :: hs ∧
      r.emit x = { r with out := .data h.word, buffer := hs, gapOwed := h.ends }) ∨
    (r.insertion = none ∧ r.gapOwed = false ∧ r.buffer = [] ∧ r.emit x = { r with out := x }) := by
  rcases hi : r.insertion with _ | ⟨m, _ | ⟨y, ys⟩⟩
  · cases hg : r.gapOwed
    · cases hb : r.buffer <;> simp [Ring.emit, hi, hg, hb]
    · simp [Ring.emit, hi, hg]
  · simp [Ring.emit, hi]
  · simp [Ring.emit, hi]

theorem Ring.emit_outStep (r : Ring) (x : Symbol) : r.OutStep (r.emit x) := by
  rcases r.emit_cases x with ⟨m, y, ys, hi, h⟩ | ⟨m, hi, h⟩ | ⟨hi, hg, h⟩ | ⟨b, bs, hi, hg, hb, h⟩ | ⟨hi, hg, hb, h⟩ <;>
    rw [h]
  · exact ⟨rfl, rfl, rfl, rfl, rfl, List.suffix_refl _, by simp [hi]⟩
  · exact ⟨rfl, rfl, rfl, rfl, rfl, List.suffix_refl _, rfl⟩
  · exact ⟨rfl, rfl, rfl, rfl, rfl, List.suffix_refl _, rfl⟩
  · exact ⟨rfl, rfl, rfl, rfl, rfl, by simp [hb], rfl⟩
  · exact ⟨rfl, rfl, rfl, rfl, rfl, List.suffix_refl _, rfl⟩

theorem Ring.sweep_outStep (n : Nat) : ∀ r : Ring, r.OutStep (Ring.sweep n r) := by
  induction n with
  | zero => exact fun r => .refl r
  | succ n ih =>
    intro r
    unfold Ring.sweep
    split
    · exact ((r.emit_outStep .idle).record _).trans (ih _)
    · exact ⟨rfl, rfl, rfl, rfl, rfl, List.suffix_refl _, rfl⟩

theorem Ring.coast_outStep (r : Ring) (n : Nat) : r.OutStep (r.coast n) := by
  unfold Ring.coast
  split
  · exact .refl r
  · exact ((Ring.OutStep.refl r).record []).trans (Ring.sweep_outStep _ _)

@[simp] theorem Ring.coast_zero (r : Ring) : r.coast 0 = r := rfl

/-- The passing of time moves ring-out alone of the ring interface (R86, R97, R98). -/
theorem State.reach_outStep (s : State) (t : Nat) : s.ring.OutStep (s.reach t).ring := by
  unfold State.reach
  dsimp only
  split
  · exact .refl _
  · exact Ring.coast_outStep _ _

@[simp] theorem State.reach_status (s : State) (t : Nat) : (s.reach t).ring.status = s.ring.status := (s.reach_outStep t).status
@[simp] theorem State.reach_aligned (s : State) (t : Nat) : (s.reach t).ring.aligned = s.ring.aligned := (s.reach_outStep t).aligned
@[simp] theorem State.reach_alignedAt (s : State) (t : Nat) : (s.reach t).ring.alignedAt = s.ring.alignedAt := (s.reach_outStep t).alignedAt
@[simp] theorem State.reach_framing (s : State) (t : Nat) : (s.reach t).ring.framing = s.ring.framing := (s.reach_outStep t).framing
@[simp] theorem State.reach_handOff (s : State) (t : Nat) : (s.reach t).ring.handOff = s.ring.handOff := (s.reach_outStep t).handOff

/-- Once all that is held has left, further word times change nothing but to carry the idle symbol. -/
theorem Ring.sweep_empty (n : Nat) (r : Ring) (h : r.emitting = false) : Ring.sweep (n + 1) r = { r with out := .idle } := by
  simp [Ring.sweep, h]

end Sys2Proof.Machine
end

