-- ==== Sys2Proof/Tests/Slice0.lean ====
section
/-!
SUPPORT. Tests of the model: ill-formed commands that each check of `WellFormed` refuses, the worked figures of the
manual (the comment of a test names its section), and for each statement with hypotheses a state and operands that
meet them.
-/

namespace Sys2Proof.Tests

open Sys2Proof.Machine

set_option Elab.async false

/-! ### Helpers -/

/-- The state an outcome goes on with, or `s` at a stop. -/
def stateOf (s : State) : Host.Outcome State Fault Refusal → State
  | .next t => t
  | _ => s

/-- The state after a command. -/
def after (c : Instr) (s : State) : State := stateOf s (exec c s)

/-- Station 12, ACTIVE, its ring UP and between messages, with four class talk levels. -/
def on : State :=
  { State.reset with
    mode := .active
    cfg := { State.reset.cfg with number := some 12, startStamp := some 0x41A0, talkLevels := #v[50000, 40000, 30000, 20000] }
    ring := { State.reset.ring with status := .up, framing := .between } }

/-- A state with a station PRESENT. -/
def present (st : Fin 63) (s : State) : State :=
  { s with roster := s.roster.set st ⟨true, some 5, some 0, 1, 0, 0⟩ }

/-- A route entry with a fixed level and a holder count. -/
def rt (i : Input) (fixed holders : Nat) : Route := ⟨i, fixed, holders, 0, 3⟩

/-- An incoming talk record of a station's source 0, with a talk number and a class. -/
def tk (st : Station) (n : TalkNo) (c : Cls) : InTalk := ⟨st, n, ⟨st, 0⟩, c, false, false, 0, 0⟩

/-- An outgoing talk record of L0 toward a station's mix 3. -/
def ot (st : Station) : OutTalk := ⟨0, ⟨st, .mix, 3⟩, 1, false, .panel, [], 0, .pending, 0, false, 1228800, false⟩

/-- A field port in a state. -/
def pt (st : PortState) : Port := { Port.reset with state := st, enabled := true, target := some ⟨20, .mix, 3⟩ }

/-- A listen entry of source 5.3 in a state, with its play sequence and stored sequences. -/
def le (st : PlayState) (p : Option Seq) (qs : List Seq) : ListenEntry :=
  { ListenEntry.created ⟨5, 3⟩ 1 2 false with state := st, play := p, buffer := qs.map fun q => ⟨q, Block.silence⟩ }

/-- A state whose ring-in has lost alignment at reference time 0, with `i` in flight and `b` in the insertion buffer. -/
def adrift (i : Option Insertion) (b : List Held) : State :=
  { on with ring := { on.ring with aligned := false, insertion := i, buffer := b } }

/-- A block of one sample value. -/
def flat (x : Int) : Block := Vector.replicate 48 (BitVec.ofInt 24 x)

/-! ### Ill-formed commands -/

theorem test_wellFormed_arguments : (Instr.nextEvent (List.replicate 4096 0)).wellFormed = false := by decide +kernel
theorem test_wellFormed_most_arguments : (Instr.nextEvent (List.replicate 4095 0)).wellFormed = true := by decide +kernel
theorem test_wellFormed_whole_frame : (Instr.frameAbort [0x28000000]).wellFormed = false := by decide
theorem test_wellFormed_cut_frame : (Instr.frameAbort [0x03001000]).wellFormed = true := by decide
theorem test_wellFormed_marker : (Instr.idleWord 0 6).wellFormed = false ∧ (Instr.idleWord 0 7).wellFormed = true := by decide
theorem test_wellFormed_burst_origin : (Instr.burst true 63 0 0 0 (flat 0)).wellFormed = false := by decide +kernel
theorem test_wellFormed_presence_origin : (Instr.presence true 63 12 1 0 0 0).wellFormed = false := by decide
theorem test_wellFormed_presence_hop : (Instr.presence true 5 63 63 0 0 0).wellFormed = false := by decide
theorem test_wellFormed_join_origin : (Instr.join true 63 12 0 0).wellFormed = false := by decide
theorem test_wellFormed_leave_origin : (Instr.leave true 63 12 0).wellFormed = false := by decide
theorem test_wellFormed_talk_origin : (Instr.talk true 63 12 0 ⟨5, 0⟩ 0 false .mix 0).wellFormed = false := by decide
theorem test_wellFormed_talkEnd_origin : (Instr.talkEnd true 63 12 0).wellFormed = false := by decide
theorem test_wellFormed_talkState_origin : (Instr.talkState true 63 12 0 0 0 0).wellFormed = false := by decide
theorem test_wellFormed_lapse_talker : (Instr.lapseTimerExpiry 63 0 0).wellFormed = false := by decide
theorem test_wellFormed_absence_station : (Instr.absenceTimerExpiry 63).wellFormed = false := by decide
theorem test_wellFormed_subscriber_station : (Instr.subscriberExpiry 0 63).wellFormed = false := by decide

/-! ### Worked figures of the manual -/

/-- Section 2.9, "Unity and rounding". -/
theorem test_rounding_half_up :
    (headroomShift 49152 0, headroomShift (-49152) 0, headroomShift (-81920) 0) = (2, -1, -2) := by decide

/-- Section 2.9, "A presenter's feed during a talk". -/
theorem test_presenter_sample : headroomShift (-66892800000) 1 = -4082812 ∧ trimmed (-4082812) 2 = -3062109 ∧
    headroomShift (-66892800000) 2 = -8165625 ∧ trimmed (-8165625) 2 = -6124219 ∧
    clipFlag (-6124219) (BitVec.ofInt 24 (-4000000)) (BitVec.ofInt 24 4000000) = .low := by decide +kernel

/-- Section 2.9, the three terms of the presenter's feed. -/
theorem test_presenter_sum : accumulate [⟨flat 1000000, 8192⟩, ⟨flat (-2000000), 40000⟩, ⟨flat 300000, 16384⟩] 5 =
    -66892800000 := by decide +kernel

/-- Section 2.9, "The largest sum". -/
theorem test_largest_sum : accumulate (List.replicate 13 ⟨flat 8388607, 65535⟩) 0 = 7146715676685 ∧
    headroomShift 7146715676685 3 = 1744803632 := by decide +kernel

/-- Section 2.9, "Limits set the wrong way round". -/
theorem test_limits_wrong_way : [5000, 1000, 0, -1000, -5000].map (fun v : Int =>
      let lo := BitVec.ofInt 24 1000
      let hi := BitVec.ofInt 24 (-1000)
      (clipFlag v lo hi, (clipped v lo hi).toInt)) =
    [(.high, -1000), (.high, -1000), (.wrong, -1000), (.low, 1000), (.low, 1000)] := by decide +kernel

/-- Section 2.9, "Full trim". -/
theorem test_full_trim : [12, -12, -13, 8388607].map (fun v : Int => trimmed v 7) = [2, -1, -2, 1048576] := by decide +kernel

/-- Section 3.8, the two ramps and the truncated base level. -/
theorem test_ramps : dimStep 32768 8192 4096 = 28672 ∧ dimStep 12768 8192 10000 = 8192 ∧
    dimStep 20480 32768 4096 = 24576 ∧ dimStep 8192 8192 4096 = 8192 ∧ effectiveBase 45001 28672 = 39375 := by decide +kernel

/-- Section 3.8, "Protect: rise, hold and recovery": passes 7001, 7003 and 7253. -/
theorem test_protect : (MixState.reset.protect 4 10 0 0).2 = some .up ∧ (MixState.reset.protect 4 10 0 0).1.trim = 1 ∧
    (({ MixState.reset with trim := 2 } : MixState).protect 4 2 0 0).2 = none ∧
    (({ MixState.reset with trim := 2, cleanRun := 249 } : MixState).protect 4 0 0 0).1.trim = 1 ∧
    (({ MixState.reset with trim := 7 } : MixState).protect 1 0 0 48).2 = none := by decide

/-- Section 10.9, "One state, several arrivals". -/
theorem test_arrivals : [4003, 4002, 3999, 4007, 4008, 36768].map (fun q : Seq =>
      ((le .playing (some 4000) [4000, 4002]).arrive 3 q Block.silence).2) =
    [.stored, .dup, .late, .stored, .resync, .late] := by decide +kernel

/-- Section 10.9, the wrap: sequence 3 lies five blocks ahead of 65534, and 65530 is late. -/
theorem test_arrival_wraps : serialDiff 3 65534 = 5 ∧ serialDiff 65530 65534 = -4 := by decide

/-- Section 10.9, the third stored block ends priming, and a block is played (passes 602 and 606). -/
theorem test_priming_and_play :
    ((le .priming (some 2200) [2200, 2202]).arrive 3 2201 Block.silence).1.state = .playing ∧
    (le .playing (some 2200) [2200, 2201]).playOne.2.1.play = some 2201 ∧
    ({ le .playing (some 2204) [2205] with last := flat (-5) } : ListenEntry).playOne.1 = flat (-3) := by decide +kernel

/-- The stamps of section 11.7. -/
def reporter : List Stamp :=
  [1000000, 1000766, 1001535, 1002303, 1003070, 1003840, 1004608, 1005376, 1006145, 1006913, 1007684, 1008451, 1009219,
    1009988, 1010756, 1011526, 1012293]

/-- Section 11.7: interval, steps, clamp margin, and the spread of the other run. -/
theorem test_training : trainedInterval reporter = 769 ∧ trainingFault reporter = none ∧ inboundStep 769 = 43634 ∧
    outboundStep 769 = 98432 ∧ clampMargin 43634 = 340 ∧
    trainingFault (reporter.take 16 ++ [1012346]) = some .trainSpread := by decide +kernel

/-- Section 12.6, steps of an 8 kHz unit. -/
theorem test_steps_8kHz : inboundStep 3072 = 10923 ∧ outboundStep 3072 = 393216 ∧ inboundStep 512 = 65536 := by decide

/-- Section 12.6, "Inbound interpolation at 32 kHz". -/
theorem test_interpolation : (interpolate 1000000 1200000 40000).toInt = 1122070 ∧
    (interpolate 1200000 1100000 18098).toInt = 1172385 ∧ (interpolate 1100000 900000 39830).toInt = 978448 ∧
    (interpolate 4000 8000 32896).toInt = 6008 := by decide +kernel

/-- Section 12.6, "Drift correction toward the clamp". -/
theorem test_drift : [(43954, 131), (43970, 123), (43974, 119), (43974, 70)].map (fun p => driftStep 43634 p.1 p.2) =
    [43962, 43974, 43974, 43966] := by decide

/-- The CRC-32 of "12345678" with generator 0x04C11DB7, most significant bit first, initial value and final inversion as "Word layouts" has them, worked by a program outside the model. -/
theorem test_crc_register : crcWord (crcWord 0xFFFFFFFF 0x31323334) 0x35363738 = ~~~ (0xB61C3D04 : Word) := by decide +kernel

/-! ### Message words written out from "Word layouts", their check words worked outside the model -/

/-- TALK-END of station 5's talk 7 to station 12, at hop count 0 and at 9. -/
theorem test_read_talkEnd : copyGood [0x802870C0, 0x38000000, 0xB5293EBA] = true ∧
    copyGood [0x922870C0, 0x38000000, 0xB5293EBA] = true ∧ copyGood [0x802870C1, 0x38000000, 0xB5293EBA] = false ∧
    copyCommand [0x922870C0, 0x38000000, 0xB5293EBA] = some (.talkEnd true 5 12 7) := by decide +kernel

/-- TALK of station 5 to all: talk 9, source 5.3, C1, interrupt, group 4. -/
theorem test_read_talk : copyGood [0x80288FF0, 0x48A36000, 0x90000000, 0x4BFC41AB] = true ∧
    copyCommand [0x80288FF0, 0x48A36000, 0x90000000, 0x4BFC41AB] = some (.talk true 5 63 9 ⟨5, 3⟩ 1 true .group 4) := by
  decide +kernel

/-- JOIN of station 9 for 12.3 at C2, and the words this station makes of such a note. -/
theorem test_read_join : copyGood [0x804864C0, 0x1C000000, 0xA578C05F] = true ∧
    copyCommand [0x804864C0, 0x1C000000, 0xA578C05F] = some (.join true 9 12 3 2) ∧
    Note.words 9 ⟨12, .join 3 2⟩ = [0x804864C0, 0x1C000000, 0xA578C05F] := by decide +kernel

/-- PRESENCE of station 5 with stamp 0x0C37, two listen entries, three sending sources, arriving with hop count 6. -/
theorem test_read_presence : copyGood [0x8C2883F0, 0x0C370000, 0x00000203, 0x35A1D239] = true ∧
    copyCommand [0x8C2883F0, 0x0C370000, 0x00000203, 0x35A1D239] = some (.presence true 5 63 6 0x0C37 2 3) ∧
    Note.words 5 ⟨63, .presence 0x0C37 2 3⟩ = [0x802883F0, 0x0C370000, 0x00000203, 0x35A1D239] := by decide +kernel

/-- TALK-STATE of station 5 to 12: talk 7, mix 3, PREEMPTED, TIMEOUT. -/
theorem test_read_talkState : copyGood [0x802874C0, 0x38D38000, 0xDE9B8C7B] = true ∧
    copyCommand [0x802874C0, 0x38D38000, 0xDE9B8C7B] = some (.talkState true 5 12 7 3 2 7) := by decide +kernel

/-- BURST of 5.3 at C1, sequence 2200, samples -24 to 23. -/
theorem test_burst_words :
    let b : Burst := ⟨3, 1, 2200, Vector.ofFn fun n => BitVec.ofInt 24 ((n.val : Int) - 24), 0⟩
    (b.words 5).take 3 = [0x002E6000, 0x1A000898, 0xFFFFFFE8] ∧
    copyCommand (b.words 5) = some (.burst true 5 3 1 2200 b.samples) := by decide +kernel

/-! ### Commands -/

/-- Section 4.3: a C1 talk pre-empts the later granted of two C3 talks. -/
theorem test_preemption :
    let s := (present 5 on).setTalks 3 ⟨[tk 20 0 3, tk 21 0 3], []⟩
    let s := s.setRoutes 3 [rt (.remote ⟨20, 0⟩) 0 1, rt (.remote ⟨21, 0⟩) 0 1]
    let t := after (.talk true 5 12 9 ⟨5, 0⟩ 1 true .mix 3) s
    t.talks[3].granted.map InTalk.talker = [20, 5] ∧ t.talks[3].waiting.map InTalk.talker = [21] ∧
    t.talks[3].waiting.map InTalk.preempted = [true] := by decide +kernel

/-- R52: a talk for a return mix whose port is LIVE only if admitted; the first test comes first. -/
theorem test_talk_tests : on.talkTest 18 ⟨5, 0, ⟨12, 18⟩, 1, false⟩ = some .destDown ∧
    (on.setPort 2 (pt .live)).talkTest 18 ⟨5, 0, ⟨12, 18⟩, 1, false⟩ = some .loop ∧
    on.talkTest 3 ⟨5, 0, ⟨5, 0⟩, 1, false⟩ = some .talkerGone ∧
    (present 5 on).talkTest 3 ⟨5, 0, ⟨5, 0⟩, 1, false⟩ = none := by decide +kernel

/-- R6: SET-ROUTE of F2 into T2 answers LOOP, of the own number BAD_ARG, of L1 into K3 creates an entry of class C3. -/
theorem test_setRoute :
    (after (.setRoute [18, 1, 2, 0, 5]) on).response = some ⟨0x04, .refused, .loop, []⟩ ∧
    (after (.setRoute [3, 2, 2, 12, 5]) on).response = some ⟨0x04, .badArg, .none, []⟩ ∧
    (after (.setRoute [3, 0, 1, 0, 32768]) on).routes[3] = [rt (.loc 1) 32768 0] := by decide +kernel

/-- R71, R73: KEY-DOWN toward station 20 takes talk number 0 and hands a TALK. -/
theorem test_keyDown :
    let t := after (.keyDown [0, 4, 20, 0, 3, 1, 1]) on
    t.response = some ⟨0x02, .done, .none, [0]⟩ ∧ t.sched.notes = [⟨20, .talk 0 ⟨12, 4⟩ 1 true .mix 3⟩] ∧
    t.events.queue = [.tally 0 .panel .pending false] := by decide +kernel

/-- R70, R73: KEY-DOWN of L4 toward K3 of the own station is granted by the own arbiter at once, with no note. -/
theorem test_keyDown_own :
    let t := after (.keyDown [0, 4, 12, 0, 3, 1, 1]) on
    t.sched.notes = [] ∧ t.talks[3].granted.map InTalk.source = [⟨12, 4⟩] ∧ (t.outTalks[0].map OutTalk.summary) = some .granted := by
  decide +kernel

/-- R75: KEY-UP ends it with a TALK-END and a released TALLY event. -/
theorem test_keyUp :
    let t := after (.keyUp [7]) (on.setOut 7 (some (ot 20)))
    t.outTalks[7] = none ∧ t.sched.notes = [⟨20, .talkEnd 7⟩] ∧ t.events.queue = [.tally 7 .panel .pending true] := by
  decide +kernel

/-- Section 11.7: the first TRAIN word, and the 17th of a port with an access code. -/
theorem test_train :
    (after (.trainWord 2) (on.setPort 2 (pt .idle))).ports[2].state = .training ∧
    (let s : State := { on with clock := ⟨0, 0, 1012293⟩ }
     let t := after (.trainWord 2) (s.setPort 2 { pt .training with stamps := reporter.take 16, access := 0x4A7193C5 })
     t.ports[2].state = .checking ∧ t.ports[2].stagedIn = some 43634) := by decide +kernel

/-- Sections 11.7 and 11.8: a right code settles the port, a wrong one the third time holds it off. -/
theorem test_code :
    let p : Port := { pt .checking with access := 0x4A7193C5, codes := [0x0000, 0x4A71] }
    (after (.codeWord 2 0x0093C5) (on.setPort 2 p)).ports[2].state = .settling ∧
    (after (.codeWord 2 0x0093C4) (on.setPort 2 { p with failures := 2 })).ports[2].state = .holdoff ∧
    (after (.codeWord 2 0x0093C4) (on.setPort 2 p)).ports[2].state = .idle := by decide +kernel

/-- Section 12.6: moment 0 of the inbound example, and the underrun of moment 4. -/
theorem test_moment :
    let p : Port := { pt .live with elastic := [1000000, 1200000, 1100000, 900000], phaseIn := 40000, activeIn := some 43634 }
    let t := after (.inboundSampleMoment 2) (on.setPort 2 p)
    (t.ports[2].lastIn, t.ports[2].phaseIn, t.ports[2].elastic) = (1122070, 18098, [1200000, 1100000, 900000]) ∧
    (after (.inboundSampleMoment 2) (on.setPort 2 { p with elastic := [900000] })).counters.underrun = 1 := by decide +kernel

/-- Section 12.6: word 2 of the outbound example. -/
theorem test_request :
    let p : Port := { pt .live with outbound := [4000, 8000, 12000, 16000], phaseOut := 32896, activeOut := some 98432 }
    let t := after (.outboundWordRequest 2) (on.setPort 2 p)
    (t.ports[2].sent, t.ports[2].phaseOut, t.ports[2].outbound) = (some 0x10001778, 256, [12000, 16000]) := by decide +kernel

/-- Section 11.9: a LIVE port that loses its line removes the talks on its return mix, in its order of notes. -/
theorem test_link_lost :
    let s := (on.setPort 1 { pt .live with silenceDue := some 491520 }).setTalks 17 ⟨[tk 5 6 1, tk 14 2 1], [tk 9 0 3]⟩
    let t := after (.linkSilenceExpiry 1) s
    t.talks[17] = ⟨[], []⟩ ∧ t.ports[1].lastFault = .linkLost ∧ t.sched.notes.map Note.target = [9, 5, 14] := by decide +kernel

/-- Section 6.7: a BURST header of hop count 6 goes on with 7; a header of the own number is stripped. -/
theorem test_header :
    (after (.messageHeader 0x0C2E6000) on).ring.out = .data 0x0E2E6000 ∧
    (after (.messageHeader 0x10666000) on).ring.out = .idle ∧
    (after (.messageHeader 0x0C006000) { on with ring := { on.ring with gapOwed := true } }).ring.buffer =
      [⟨0x0E006000, false⟩] := by decide +kernel

/-- R94, R99: the last word of a TALK-END completes its copy, which then waits for its owner. -/
theorem test_copy_completes :
    let m : Arrival := ⟨1, .cutThrough, .copy, [0x802870C0, 0x38000000]⟩
    let s : State := { on with ring := { on.ring with framing := .message m } }
    (after (.messageWordArrival 0xB5293EBA) s).ring.handOff = [.talkEnd true 5 12 7] ∧
    (after (.messageWordArrival 0xB5293EBB) s).counters.check = 1 ∧
    (after .ringInIdleSymbol s).counters.partialCopies = 1 := by decide +kernel

/-- R97, R139: a note begins its insertion with its words and two idle symbols; a burst that has left is recorded. -/
theorem test_insertion :
    let s : State := { on with sched := { on.sched with notes := [⟨12, .talkEnd 7⟩] } }
    ((after .insertionStart s).ring.insertion.map fun i => i.left.length) = some 5 ∧
    (let b : Burst := ⟨3, 1, 2200, flat 0, 2⟩
     (after .insertionEnd { on with ring := { on.ring with insertion := some ⟨.burst b, []⟩ } }).sched.last[3] =
       some ⟨2200, 2⟩) := by decide +kernel

/-- R97, log entry 10: the symbols that had not left yet leave before INSERTION_END. -/
theorem test_insertion_sweeps :
    (after .insertionEnd { on with ring := { on.ring with
      insertion := some ⟨.note ⟨12, .talkEnd 7⟩, [.data 5, .idle, .idle]⟩ } }).ring.swept = [.data 5, .idle, .idle] := by
  decide +kernel

/-- R86, R97, section 6.1: without ring-in, two reference counts let one word leave, and all has left 10 µs later. -/
theorem test_ring_out_goes_on :
    let s := adrift (some ⟨.note ⟨12, .talkEnd 7⟩, [.data 5, .data 6, .idle, .idle]⟩) []
    (s.reach 1).ring.out = .idle ∧ (s.reach 2).ring.out = .data 5 ∧ (s.reach 4).ring.swept = [.data 5, .data 6] ∧
    ((after .ringDown s).ring.insertion.map Insertion.left) = some [] ∧ (after .ringDown s).ring.status = .down := by
  decide +kernel

/-- R86, R98: the buffer lets its words out with the idle symbol of each message, and RING_DOWN discards nothing of them. -/
theorem test_ring_down_buffer :
    (after .ringDown (adrift none [⟨5, false⟩, ⟨6, true⟩])).ring.swept = [.data 5, .data 6, .idle] := by decide +kernel

/-- R161, "Field word": the marker of a word names its command; 7 to 15 are read as IDLE. -/
theorem test_field_words :
    (on.withFieldWord 2 0x1A000001).pending = [.sampleWord 2 1] ∧ (on.withFieldWord 2 0x6FFFFFFF).pending = [.endWord 2] ∧
    (on.withFieldWord 2 0x70000005).pending = [.idleWord 2 7] ∧ (on.withFieldWord 2 0xF0000005).pending = [.idleWord 2 15] := by
  decide

/-- R185: a frame sends the response held at its assertion, the next frame that of its command; a word too many is not read. -/
theorem test_frames :
    (on.withFrame [0x28000000, 9]).pending = [.nextEvent [], .frameAbort []] ∧
    (let t := after (.nextEvent []) on
     let u := after (.frameAbort []) t
     t.sentFrame = [0x00300000] ∧ u.selected = false ∧ u.sentFrame = [0x00300000] ∧
     (after (.frameAbort []) u).sentFrame = [0x28000020, 0xFFFFFFFF, 0]) := by decide +kernel

/-- R65, R187: ON is the first of its table, OFF the second; PROMOTE the second cause. -/
theorem test_incoming_words : (Event.incoming 3 5 9 ⟨5, 0⟩ 1 true true .promote).words = [1, 3, 5, 9, 5, 0, 1, 1, 0, 1] ∧
    (Event.incoming 3 5 9 ⟨5, 0⟩ 1 true false .ended).words = [1, 3, 5, 9, 5, 0, 1, 1, 1, 3] := by decide

/-- R113: a PRESENCE of the own number with another stamp silences the station; the own stamp does not. -/
theorem test_duplicate : (after (.presenceCheckCopy true 0x0C37) on).mode = .silent ∧
    (after (.presenceCheckCopy true 0x41A0) on).mode = .active := by decide +kernel

/-- R18, R19: the 48th sample period completes the block. -/
theorem test_block_completes :
    let s : State := { on with audio := { on.audio with current := List.replicate 47 (Vector.replicate 16 5) } }
    let t := after (.localSample (Vector.replicate 16 7)) s
    t.audio.blockCounter = 1 ∧ t.audio.completed[3][47] = 7 ∧ t.audio.completed[3][46] = 5 ∧ t.audio.current = [] ∧
    (t.audio.pass.map Pass.number) = some 1 := by decide +kernel

/-- R31, section 2.9: a pass of one unity term delivers its input block. -/
theorem test_pass_end :
    let p : PassMix := ⟨[⟨flat 1234567, 32768⟩], 0, 0, BitVec.ofInt 24 (-8388608), 8388607⟩
    let s : State := { on with audio := { on.audio with pass := some ⟨9, Vector.replicate 24 p⟩ } }
    let t := after .mixPassEnd s
    t.audio.delivered[0] = some (flat 1234567) ∧ t.audio.pass = none ∧ t.mixes[0].cleanRun = 1 := by decide +kernel

/-- R117: a JOIN of a PRESENT station is added last; of an ABSENT one it is not. -/
theorem test_join : (after (.join true 5 12 3 2) (present 5 on)).sends[3] = [⟨5, 2, 0⟩] ∧
    (after (.join true 5 12 3 2) on).sends[3] = [] := by decide +kernel

/-- R108, R112: the absence timer makes the station ABSENT 350 ms after it was last heard. -/
theorem test_absence :
    let t := after (.absenceTimerExpiry 5) (present 5 on)
    t.roster[5].present = false ∧ t.clock.now = 8601600 ∧ t.events.queue = [.station 5 .absent (some 5) 0] := by decide +kernel


/-! ### Witnesses: states and operands that meet the hypotheses of the statements, clause by clause -/

theorem witness_EmptyQueueLetsOneCountPass :
    let i : Insertion := ⟨.note ⟨12, .talkEnd 7⟩, [.data 5, .idle, .idle]⟩
    State.reset.pending = [] ∧ State.reset.mode = .unconfigured ∧ on.ring.aligned = true ∧
    (adrift (some i) []).ring.aligned = false ∧ (adrift (some i) []).mode ≠ .unconfigured ∧ (adrift (some i) []).ring.insertion = some i ∧
    (adrift none [⟨5, true⟩]).ring.insertion = none ∧
    0 < (2 - on.ring.alignedAt) * 3125 / 6144 - (on.clock.now - on.ring.alignedAt) * 3125 / 6144 ∧
    (1 - on.ring.alignedAt) * 3125 / 6144 - (on.clock.now - on.ring.alignedAt) * 3125 / 6144 = 0 := by decide +kernel

theorem witness_FramesLeaveTheirResponse :
    State.reset.response = none ∧ ({ on with response := some ⟨0x20, .done, .none, [0]⟩ } : State).response ≠ none ∧
    ([] : List Word).length < bits 0x03001000 12 12 ∧ bits 0x99000000 12 12 ≤ ([] : List Word).length ∧
    (0x99000000 : Word) ≠ 0 ∧ bits 0x99000000 24 8 = 0x99 ∧ State.reset.selected = false ∧
    (State.reset.respond 0x27 .done .none [0]).selected = true ∧
    ([7] : List Word).length = bits 0x03001000 12 12 ∧ bits 0x03001000 24 8 = 0x03 ∧
    (∀ code ∈ [0x01, 0x02, 0x03, 0x04, 0x05, 0x20, 0x21, 0x22, 0x23, 0x24, 0x25, 0x26, 0x27, 0x28, 0x29],
      bits (BitVec.ofNat 32 (code * 16777216)) 24 8 = code ∧
      bits (BitVec.ofNat 32 (code * 16777216)) 12 12 = ([] : List Word).length) := by decide +kernel

theorem witness_CommandsAreCheckedInOrder :
    ([] : List Word).length ≠ 295 ∧ ([] : List Word).length ≠ 7 ∧ ([] : List Word).length ≠ 5 ∧ ([] : List Word).length ≠ 1 ∧
    [(0 : Word)] ≠ [] ∧ State.reset.mode = .unconfigured ∧ (List.replicate 7 (0 : Word)).length = 7 := by decide

theorem witness_ReadRoutesReturnsEntries :
    23 < (24 : Word).toNat ∧ State.reset.mode = .unconfigured ∧ State.reset.EmptyWhileUnconfigured := by
  unfold State.EmptyWhileUnconfigured
  decide +kernel

theorem witness_TalkFeedAndFieldReadsReturnState :
    on.outTalks[0] = none ∧ (on.setOut 31 (some (ot 20))).outTalks[31] = some (ot 20) ∧ 31 < (32 : Word).toNat ∧
    7 < (8 : Word).toNat := by decide +kernel

theorem witness_ListenSendAndRosterReadsReturnState :
    let s := on.setListen 31 (some (le .playing (some 65534) [65534, 5]))
    on.listens[(31 : Fin 32)] = none ∧ s.listens[(31 : Fin 32)] = some (le .playing (some 65534) [65534, 5]) ∧
    s.BuffersInWindow ∧ 31 < (32 : Word).toNat ∧ 23 < (24 : Word).toNat := by
  refine ⟨by decide +kernel, by decide +kernel, ?_, by decide, by decide⟩
  intro k e he
  by_cases hk : k = 31
  · subst hk
    cases (show le .playing (some 65534) [65534, 5] = e by simpa [State.setListen] using he)
    exact ⟨by decide, by decide, by decide⟩
  · have all : ∀ k : Fin 32, on.listens[k] = none := by decide +kernel
    have this := all k
    have h31 : ¬ 31 = k.val := fun h => hk (Fin.ext h.symm)
    simp [State.setListen, h31] at he
    simp at this
    simp [this] at he

theorem witness_EventQueueIsBoundedFifo :
    let e : Event := .ring .up 0 none
    on.events.queue = [] ∧ (on.emit e).events.queue = [e] ∧
    64 ≤ ({ on with events := ⟨List.replicate 64 e, 65535⟩ } : State).events.queue.length ∧
    ({ on with events := ⟨List.replicate 63 e, 0⟩ } : State).events.queue.length < 64 := by decide +kernel

/-- The argument words of a CONFIGURE of station 62: every mix without a base, every port disabled with group target 7 of all stations, but for the words given at their places. -/
def cfgArgs (change : List (Nat × Word)) : List Word :=
  let mix : List Word := [7, 3, 0, 65535, 40000, 40000, 3, 0xFF800000, 0x007FFFFF, 60]
  let port : List Word := [0, 0, 0, 63, 1, 7]
  change.foldl (fun l c => l.set c.1 c.2)
    ([62, 9, 3, 65535, 0, 0, 0] ++ (List.replicate 24 mix).flatten ++ (List.replicate 8 port).flatten)

/-- R188: the jitter target, depth, ramp and threshold are clamped. -/
theorem test_configure_clamps : (argConfiguration (cfgArgs [])).map (fun c => (c.jitterTarget, c.mixes[0].dimDepth,
    c.mixes[23].dimRamp, c.mixes[5].protect)) = some (6, 32768, 32768, 48) := by decide +kernel

/-- R189: CONFIGURE makes the station ACTIVE, opens the bypass and idles an enabled port. -/
theorem test_configure :
    let t := after (.configure (cfgArgs [(247, 1)])) { State.reset with clock := ⟨100, 41, 0⟩ }
    t.mode = .active ∧ t.bypassClosed = false ∧ t.ports[0].state = .idle ∧ t.ports[1].state = .disabled ∧
    t.response = some ⟨0x01, .done, .none, [62, 41]⟩ := by decide +kernel

theorem witness_ConfigureTakesEffect :
    State.reset.mode = .unconfigured ∧ (cfgArgs [(247, 1)]).length = 295 ∧
    (argConfiguration (cfgArgs [(247, 1)])).isSome = true := by decide +kernel

theorem witness_ConfigureChecksItsArguments :
    on.mode ≠ .unconfigured ∧ State.reset.mode = .unconfigured ∧
    arg (cfgArgs [(0, 63)]) 0 = 63 ∧ 3 < arg (cfgArgs [(2, 4)]) 2 ∧ 7 < arg (cfgArgs [(237, 8)]) (7 + 10 * 23) ∧
    3 < arg (cfgArgs [(13, 4)]) 13 ∧ arg (cfgArgs [(8, 1)]) 8 = 1 ∧
    (arg (cfgArgs [(8, 0), (9, 16)]) 8 = 0 ∧ 15 < arg (cfgArgs [(8, 0), (9, 16)]) 9) ∧
    63 < arg (cfgArgs [(250, 64)]) 250 ∧ (arg (cfgArgs [(251, 0), (252, 24)]) 251 = 0 ∧ 23 < arg (cfgArgs [(251, 0), (252, 24)]) 252) ∧
    arg (cfgArgs [(252, 0)]) 252 = 0 ∧ 7 < arg (cfgArgs [(294, 8)]) (252 + 6 * 7) ∧
    (cfgArgs [(294, 8)]).length = 295 ∧
    62 < arg (cfgArgs [(0, 64)]) 0 ∧ 65535 < arg (cfgArgs [(3, 65536)]) 3 ∧ 65535 < arg (cfgArgs [(10, 65536)]) 10 ∧
    1 < arg (cfgArgs [(247, 2)]) 247 ∧ 65535 < arg (cfgArgs [(248, 65536)]) 248 ∧
    ((0x00800000 : Word).setWidth 24).signExtend 32 ≠ (0x00800000 : Word) ∧
    (let a := cfgArgs [(8, 0), (9, 15), (247, 1), (251, 0), (252, 23)]
     arg a 0 ≤ 62 ∧ arg a 2 ≤ 3 ∧ (∀ c : Cls, arg a (3 + c.val) ≤ 65535) ∧
     (∀ m : Mix, arg a (7 + 10 * m.val) ≤ 7 ∧
       (arg a (8 + 10 * m.val) = 3 ∨ (arg a (8 + 10 * m.val) = 0 ∧ arg a (9 + 10 * m.val) ≤ 15)) ∧
       arg a (10 + 10 * m.val) ≤ 65535 ∧ arg a (13 + 10 * m.val) ≤ 3 ∧
       a.getD (14 + 10 * m.val) 0 = (0x800000#24).signExtend 32 ∧ a.getD (15 + 10 * m.val) 0 = (0x7FFFFF#24).signExtend 32) ∧
     (∀ k : PortNo, arg a (247 + 6 * k.val) ≤ 1 ∧ arg a (248 + 6 * k.val) ≤ 65535 ∧ arg a (250 + 6 * k.val) ≤ 63 ∧
       ((arg a (251 + 6 * k.val) = 0 ∧ arg a (252 + 6 * k.val) ≤ 23) ∨
         (arg a (251 + 6 * k.val) = 1 ∧ 1 ≤ arg a (252 + 6 * k.val) ∧ arg a (252 + 6 * k.val) ≤ 7)))) := by decide +kernel

/-- A state with `n` route entries in each of the first `m` mixes. -/
def routed (m n : Nat) (s : State) : State :=
  { s with routes := Vector.ofFn fun k => if k.val < m then List.replicate n (rt (.loc 0) 1 0) else [] }

/-- A listen entry for each of 32 sources of stations 1 and 2. -/
def heard (k : Fin 32) : Option ListenEntry :=
  some (ListenEntry.created ⟨if k.val < 24 then 1 else 2, ⟨k.val % 24, Nat.mod_lt _ (by decide)⟩⟩ 1 2 false)

/-- A state with every listen entry taken. -/
def listening (s : State) : State := { s with listens := Vector.ofFn heard }

theorem witness_SetRouteChangesOneEntry :
    on.mode ≠ .unconfigured ∧ argRoute on.cfg.number [18, 1, 2, 0, 5] = some ⟨18, .field 2, 5⟩ ∧ loops 18 (.field 2) = true ∧
    argRoute on.cfg.number [3, 0, 15, 0, 65535] = some ⟨3, .loc 15, 65535⟩ ∧ loops 3 (.loc 15) = false ∧
    hasRoute on.routes[3] (.loc 15) = false ∧ on.spaceTest 3 (.loc 15) 0 = none ∧
    (routed 4 12 on).spaceTest 3 (.loc 15) 0 = some .mixFull ∧
    hasRoute (on.setRoutes 3 [rt (.loc 15) 7 0]).routes[3] (.loc 15) = true ∧
    argRoute on.cfg.number [3, 0, 15, 0, 0] = some ⟨3, .loc 15, 0⟩ ∧
    (rt (.loc 15) 7 0).holders = 0 ∧ (rt (.loc 15) 7 2).holders ≠ 0 ∧
    hasRoute (on.setRoutes 3 [rt (.loc 15) 7 2]).routes[3] (.loc 15) = true := by decide +kernel

theorem witness_SpaceTestsInOrder :
    192 ≤ ((List.finRange 24).map fun m : Mix => (routed 16 12 on).routes[m].length).sum ∧
    12 ≤ (routed 4 12 on).routes[(3 : Mix)].length ∧ (routed 4 11 on).routes[(3 : Mix)].length < 12 ∧
    ((List.finRange 24).map fun m : Mix => (routed 4 12 on).routes[m].length).sum < 192 ∧
    (listening on).findListen ⟨5, 3⟩ = none ∧ 32 ≤ (listening on).listenCount ∧
    (listening on).findListen ⟨2, 7⟩ ≠ none ∧ on.listenCount < 32 + 0 ∧ (listening on).listenCount < 32 + 1 := by decide +kernel

theorem witness_SetRouteReadsItsArguments :
    (5 : Station).val ≠ 63 ∧ some (5 : Station) ≠ on.cfg.number ∧ on.mode ≠ .unconfigured ∧ 23 < (24 : Word).toNat ∧
    15 < (16 : Word).toNat ∧ 65535 < (65536 : Word).toNat ∧ 2 < (3 : Word).toNat ∧ 63 ≤ (63 : Word).toNat ∧
    some (12 : Word).toNat = on.cfg.number.map Fin.val := by decide

theorem witness_FirstReferenceCreatesListenEntry :
    let entries := fun (s : State) (p : Remote) =>
      (List.finRange 24).flatMap fun m : Mix => s.routes[m].filter fun x => x.input == .remote p
    let s := (present 5 on).setRoutes 3 [rt (.remote ⟨5, 3⟩) 7 0]
    let u := s.setListen 4 (some (le .empty none []))
    let v := (present 6 on).setRoutes 3 [rt (.remote ⟨6, 1⟩) 7 0]
    (entries on ⟨5, 3⟩ = [] ∧ ∀ j : Fin 32, on.listens[j] = none) ∧
    (entries s ⟨5, 3⟩ = [rt (.remote ⟨5, 3⟩) 7 0] ∧ (rt (.remote ⟨5, 3⟩) 7 0).cls = 3 ∧ (∀ j : Fin 32, s.listens[j] = none) ∧
      s.isPresent 5 = true ∧ (on.setRoutes 3 [rt (.remote ⟨5, 3⟩) 7 0]).isPresent 5 = false) ∧
    (u.listens[(4 : Fin 32)] = some (le .empty none []) ∧ (∀ j : Fin 32, ∀ x ∈ u.listens[j], x.source = ⟨5, 3⟩ → j = 4) ∧
      (le .empty none []).source = ⟨5, 3⟩ ∧ (3 : Cls) ≠ (le .empty none []).cls ∧ (le .empty none []).absent = false) ∧
    (let w := v.setListen 4 (some (le .empty none []))
     entries w ⟨5, 3⟩ = [] ∧ entries w ⟨6, 1⟩ ≠ [] ∧ w.listens[(0 : Fin 32)] = none ∧
     (∀ j : Fin 32, ∀ x ∈ w.listens[j], x.source ≠ ⟨6, 1⟩) ∧ w.isPresent 6 = true) ∧
    (let w := listening v
     entries w ⟨1, 0⟩ = [] ∧ entries w ⟨6, 1⟩ ≠ [] ∧ (w.listens[(0 : Fin 32)].map ListenEntry.source) = some ⟨1, 0⟩ ∧
     (∀ j : Fin 32, ∀ x ∈ w.listens[j], (x.source = ⟨1, 0⟩ → j = 0) ∧ x.source ≠ ⟨6, 1⟩)) := by decide +kernel

theorem witness_NotesAreQueuedOrDropped :
    on.mode = .active ∧ on.sched.notes.length < 16 ∧
    16 ≤ ({ on with sched := { on.sched with notes := List.replicate 16 ⟨20, .talkEnd 0⟩ } } : State).sched.notes.length ∧
    on.counters.noteDrop ≤ 65535 ∧ State.reset.mode ≠ .active := by decide +kernel

theorem witness_RecomputeFollowsHolders : ([2] : List Cls) ≠ [] ∧ 0 < (rt (.loc 0) 1 0).fixedLevel := by decide

theorem witness_HoldTakesOneHolder :
    23 < (⟨5, 24⟩ : SourceAddr).index.val ∧ (⟨63, 0⟩ : SourceAddr).station.val = 63 ∧
    on.input ⟨12, 18⟩ = some (.field 2) ∧ loops 18 (.field 2) = true ∧ on.input ⟨5, 23⟩ = some (.remote ⟨5, 23⟩) ∧
    loops 18 (.remote ⟨5, 23⟩) = false ∧ hasRoute on.routes[(18 : Mix)] (.remote ⟨5, 23⟩) = false ∧
    on.spaceTest 18 (.remote ⟨5, 23⟩) 0 = none ∧ (listening on).spaceTest 18 (.remote ⟨5, 23⟩) 0 ≠ none ∧
    hasRoute (on.setRoutes 18 [rt (.remote ⟨5, 23⟩) 0 1]).routes[(18 : Mix)] (.remote ⟨5, 23⟩) = true ∧
    on.input ⟨63, 0⟩ = none ∧ on.input ⟨20, 0⟩ = some (.remote ⟨20, 0⟩) := by decide +kernel

/-- Exchanges of the victim 20.0 on mix 3: with its own source, with a routed one, a new one, one without space, and a loop. -/
theorem witness_HoldTakesOneHolder_exchange :
    let freed := fun s : State => { s with routes := s.routes.set (3 : Mix) (s.routes[(3 : Mix)].filterMap fun e : Route =>
      if e.input = Input.remote ⟨20, 0⟩ then
        if e.holders ≤ 1 ∧ e.fixedLevel = 0 then none
        else some (({ e with holders := e.holders - 1 } : Route).recompute s.cfg [])
      else some e) }
    let s := on.setRoutes 3 [rt (.remote ⟨20, 0⟩) 0 1]
    let u := on.setRoutes 3 [rt (.remote ⟨20, 0⟩) 0 1, rt (.remote ⟨5, 0⟩) 7 0]
    on.input (tk 20 0 3).source = some (.remote ⟨20, 0⟩) ∧ on.input ⟨5, 0⟩ = some (.remote ⟨5, 0⟩) ∧
    loops 3 (.remote ⟨5, 0⟩) = false ∧ hasRoute (freed s).routes[(3 : Mix)] (.remote ⟨5, 0⟩) = false ∧
    (freed s).spaceTest 3 (.remote ⟨5, 0⟩) 0 = none ∧ hasRoute (freed u).routes[(3 : Mix)] (.remote ⟨5, 0⟩) = true ∧
    hasRoute (freed (routed 4 12 on)).routes[(3 : Mix)] (.remote ⟨5, 0⟩) = false ∧
    (freed (routed 4 12 on)).spaceTest 3 (.remote ⟨5, 0⟩) 0 ≠ none ∧
    on.input ⟨12, 18⟩ = some (.field 2) ∧ loops 18 (.field 2) = true := by decide +kernel

/-- A state whose incoming talk table holds 48 records, two GRANTED on each mix. -/
def talking (s : State) : State :=
  { s with talks := Vector.ofFn fun _ => ⟨[tk 20 0 3, tk 21 0 3], []⟩ }

theorem witness_TalkTestsInOrder :
    (18 : Mix) = returnMix 2 ∧ on.ports[(2 : PortNo)].state = .disabled ∧
    on.input ⟨12, 18⟩ = some (.field 2) ∧ (on.setPort 2 (pt .retraining)).ports[(2 : PortNo)].state = .retraining ∧
    some (5 : Station) ≠ on.cfg.number ∧ on.isPresent 5 = false ∧ (present 5 on).isPresent 5 = true ∧
    48 ≤ ((List.finRange 24).map fun m : Mix =>
      (talking on).talks[m].granted.length + (talking on).talks[m].waiting.length).sum := by decide +kernel

theorem witness_TalkRefreshAnswersState :
    on.takesCopies = true ∧ on.cfg.number = some 12 ∧ (12 : Station).val ≠ 63 ∧ (5 : Station) ≠ 12 ∧ on.ring.handOff = [] ∧
    (on.setTalks 3 ⟨[tk 5 9 1], []⟩).talks[(3 : Mix)].granted.find? (fun t => t.isOf 5 9) = some (tk 5 9 1) ∧
    (on.setTalks 3 ⟨[], [tk 5 9 1]⟩).talks[(3 : Mix)].granted.find? (fun t => t.isOf 5 9) = none ∧
    (on.setTalks 3 ⟨[], [tk 5 9 1]⟩).talks[(3 : Mix)].waiting.find? (fun t => t.isOf 5 9) = some (tk 5 9 1) ∧
    (tk 5 9 1).source = ⟨5, 0⟩ ∧ (tk 5 9 1).source ≠ ⟨5, 1⟩ ∧ some (5 : Station) ≠ on.cfg.number ∧ some (12 : Station) = on.cfg.number ∧
    (on.setTalks 3 ⟨[tk 12 9 1], []⟩).talks[(3 : Mix)].granted.find? (fun t => t.isOf 12 9) = some (tk 12 9 1) ∧
    (on.setTalks 3 ⟨[tk 5 9 1], []⟩).KeysUnique ∧ (on.setTalks 3 ⟨[], [tk 5 9 1]⟩).KeysUnique := by
  unfold State.KeysUnique
  decide +kernel

theorem witness_NewTalkIsArbitrated :
    on.takesCopies = true ∧ on.cfg.number = some 12 ∧ on.ring.handOff = [] ∧
    on.talks[(3 : Mix)].granted.find? (fun t => t.isOf 5 9) = none ∧
    on.talkTest 3 ⟨5, 9, ⟨5, 0⟩, 1, false⟩ = some .talkerGone ∧ (present 5 on).talkTest 3 ⟨5, 9, ⟨5, 0⟩, 1, false⟩ = none ∧
    on.talkTest 3 ⟨12, 9, ⟨12, 4⟩, 1, false⟩ = none ∧ ((present 5 on).hold 3 ⟨5, 0⟩ 1).isSome = true ∧ (present 5 on).hold 3 ⟨5, 24⟩ 1 = none ∧
    ((present 5 on).setTalks 3 ⟨[tk 20 0 1, tk 21 0 1], []⟩).talks[(3 : Mix)].granted = [tk 20 0 1, tk 21 0 1] ∧
    (tk 21 0 1).cls ≤ (1 : Cls) ∧
    (let s := (present 5 on).setTalks 3 ⟨[tk 20 0 3, tk 21 0 3], []⟩
     let s := s.setRoutes 3 [rt (.remote ⟨20, 0⟩) 0 1, rt (.remote ⟨21, 0⟩) 0 1]
     (1 : Cls) < (tk 21 0 3).cls ∧ (s.exchange 3 (tk 21 0 3) [tk 20 0 3] ⟨5, 0⟩ 1).isSome = true ∧
     (s.exchange 3 (tk 21 0 3) [tk 20 0 3] ⟨5, 24⟩ 1).isSome = false) := by decide +kernel

theorem witness_TalkExpandsToMixes :
    on.takesCopies = true ∧ on.cfg.number = some 12 ∧ (12 : Station).val ≠ 63 ∧ (5 : Station) ≠ 12 ∧ on.ring.handOff = [] ∧
    (63 : Station).val = 63 ∧ 1 ≤ (1 : Fin 32).val ∧ (7 : Fin 32).val ≤ 7 ∧ (0 : Fin 32).val = 0 ∧ 7 < (8 : Fin 32).val ∧
    23 < (24 : Fin 32).val := by decide

theorem witness_TalkEndRemovesRecords :
    let s := on.setTalks 3 ⟨[tk 5 9 1, tk 6 0 1], [tk 7 0 2]⟩
    s.takesCopies = true ∧ s.cfg.number = some 12 ∧ (5 : Station) ≠ 12 ∧ s.ring.handOff = [] ∧ s.KeysUnique ∧
    (∃ r ∈ s.talks[(3 : Mix)].granted, r.talker = 5 ∧ r.number = 9) ∧
    (∀ r ∈ s.talks[(4 : Mix)].granted ++ s.talks[(4 : Mix)].waiting, ¬ (r.talker = 5 ∧ r.number = 9)) ∧
    2 ≤ s.talks[(3 : Mix)].granted.length ∧
    ((on.setTalks 3 ⟨[tk 6 0 1], [tk 7 0 2]⟩).talks[(3 : Mix)].granted.length < 2 ∧
      (on.setTalks 3 ⟨[tk 6 0 1], [tk 7 0 2]⟩).talks[(3 : Mix)].waiting = [tk 7 0 2]) ∧
    ((on.setTalks 3 ⟨[tk 6 0 1], []⟩).hold 3 ⟨7, 0⟩ 2).isSome = true ∧
    (on.setTalks 3 ⟨[tk 6 0 1], []⟩).hold 3 ⟨7, 24⟩ 2 = none := by
  unfold State.KeysUnique
  decide +kernel

theorem witness_LapseRemovesRecord :
    let s := on.setTalks 3 ⟨[tk 5 9 1], []⟩
    let u := on.setTalks 3 ⟨[], [tk 5 9 1]⟩
    s.talks[(3 : Mix)].granted.find? (fun t => t.isOf 5 9) = some (tk 5 9 1) ∧ s.KeysUnique ∧
    u.talks[(3 : Mix)].granted.find? (fun t => t.isOf 5 9) = none ∧
    u.talks[(3 : Mix)].waiting.find? (fun t => t.isOf 5 9) = some (tk 5 9 1) ∧ some (5 : Station) ≠ u.cfg.number := by
  unfold State.KeysUnique
  decide +kernel

theorem witness_KeyDownCreatesTalk :
    on.mode ≠ .unconfigured ∧ on.cfg.number = some 12 ∧ ([0, 4, 20, 0, 3, 1, 1] : List Word).length = 7 ∧
    argKey [0, 4, 20, 0, 3, 1, 1] = some ⟨4, ⟨20, .mix, 3⟩, 1, true⟩ ∧
    (on.setOut 0 (some (ot 20))).outTalks[(1 : TalkNo)] = none ∧
    (∀ j < (1 : TalkNo), (on.setOut 0 (some (ot 20))).outTalks[j] ≠ none) ∧ (20 : Station).val ≠ 63 ∧ (20 : Station) ≠ 12 ∧
    argKey [0, 4, 12, 0, 3, 1, 1] = some ⟨4, ⟨12, .mix, 3⟩, 1, true⟩ ∧ (12 : Station).val ≠ 63 ∧
    argKey [0, 4, 63, 1, 2, 1, 1] = some ⟨4, ⟨63, .group, 2⟩, 1, true⟩ := by
  decide +kernel

theorem witness_KeyDownChecksArguments :
    let taken := fun args : List Word =>
      ((arg args 0 = 0 ∧ arg args 1 ≤ 15) ∨ (arg args 0 = 1 ∧ arg args 1 ≤ 7)) ∧ arg args 2 ≤ 63 ∧
      ((arg args 3 = 0 ∧ arg args 4 ≤ 23 ∧ arg args 2 ≠ 63) ∨ (arg args 3 = 1 ∧ 1 ≤ arg args 4 ∧ arg args 4 ≤ 7)) ∧
      arg args 5 ≤ 3 ∧ arg args 6 ≤ 1
    (∀ args ∈ ([[0, 15, 62, 0, 23, 3, 1], [0, 0, 63, 1, 7, 0, 0], [1, 7, 0, 0, 0, 0, 0], [1, 0, 63, 1, 1, 3, 1]] :
      List (List Word)), taken args ∧ argKey args ≠ none ∧ args.length = 7) ∧
    (∀ args ∈ ([[2, 0, 20, 0, 3, 1, 1], [0, 16, 20, 0, 3, 1, 1], [1, 8, 20, 0, 3, 1, 1], [0, 0, 64, 0, 3, 1, 1],
        [0, 0, 63, 0, 3, 1, 1], [0, 0, 20, 2, 3, 1, 1], [0, 0, 20, 0, 24, 1, 1], [0, 0, 20, 1, 0, 1, 1],
        [0, 0, 20, 1, 8, 1, 1], [0, 0, 20, 0, 32, 1, 1], [0, 0, 20, 0, 3, 4, 1], [0, 0, 20, 0, 3, 1, 2]] :
      List (List Word)), ¬ taken args ∧ argKey args = none ∧ args.length = 7) ∧ on.mode ≠ .unconfigured ∧
    (∀ n : TalkNo, ({ on with outTalks := Vector.replicate 32 (some (ot 20)) } : State).outTalks[n] ≠ none) := by
  decide +kernel

theorem witness_KeyUpReleasesTalk :
    on.mode ≠ .unconfigured ∧ 31 < (32 : Word).toNat ∧ on.outTalks[(31 : TalkNo)] = none ∧
    (on.setOut 31 (some (ot 20))).outTalks[(31 : TalkNo)] = some (ot 20) ∧ on.cfg.number = some 12 ∧
    (ot 20).target.station.val ≠ 63 ∧ (ot 20).target.station ≠ 12 ∧ (12 : Station).val ≠ 63 ∧
    (on.setOut 0 (some (ot 12))).outTalks[(0 : TalkNo)] = some (ot 12) ∧ (ot 12).target.station = 12 ∧
    (on.setOut 0 (some (ot 63))).outTalks[(0 : TalkNo)] = some (ot 63) ∧ (ot 63).target.station.val = 63 := by decide +kernel

theorem witness_TalkStateUpdatesReplies :
    on.takesCopies = true ∧ on.cfg.number = some 12 ∧ (20 : Station) ≠ 12 ∧ on.ring.handOff = [] ∧
    5 ≤ (5 : Fin 8).val ∧ 8 ≤ (8 : Fin 16).val ∧ on.outTalks[(7 : TalkNo)] = none ∧
    (on.setOut 7 (some (ot 20))).outTalks[(7 : TalkNo)] = some (ot 20) ∧
    ((ot 20).target.station.val ≠ 63 ∧ (ot 20).target.station ≠ 21) ∧ ((ot 20).target.kind = .mix ∧ (ot 20).target.value ≠ 4) ∧
    TalkAnswer.ofCode 4 = some .lapsed ∧ Reason.ofCode 7 = some .timeout ∧ (ot 20).target.value = 3 ∧ (12 : Station).val ≠ 63 ∧
    (ot 20).target.station = 20 ∧ (ot 63).target.station.val = 63 := by decide +kernel

theorem witness_OutTalkTimersAct :
    let s := on.setOut 7 (some (ot 20))
    s.outTalks[(7 : TalkNo)] = some (ot 20) ∧ s.cfg.number = some 12 ∧ (ot 20).target.station.val ≠ 63 ∧
    (ot 20).target.station ≠ 12 ∧ (ot 20).answerTimerRan = false ∧ (ot 20).replies = [] ∧ (ot 20).heard = false ∧
    ({ ot 20 with heard := true } : OutTalk).heard = true ∧ (12 : Station).val ≠ 63 ∧
    ((on.setOut 7 (some (ot 12))).outTalks[(7 : TalkNo)] = some (ot 12) ∧ (ot 12).target.station = 12) ∧
    ((on.setOut 7 (some (ot 63))).outTalks[(7 : TalkNo)] = some (ot 63) ∧ (ot 63).target.station.val = 63) := by decide +kernel

/-- A state one sample period short of a block completion. -/
def full (s : State) : State := { s with audio := { s.audio with current := List.replicate 47 (Vector.replicate 16 5) } }

theorem witness_LocalSampleFillsAndCompletesBlock :
    on.audio.current.length < 47 ∧ (full on).audio.current.length = 47 ∧ (full on).audio.pass = none ∧
    (on.setPort 0 { pt .settling with settled := 7 }).ports[(0 : PortNo)].state = .settling ∧
    (on.setPort 0 { pt .live with stagedIn := some 5, trained := some 5 }).ports[(0 : PortNo)].stagedIn = some 5 ∧
    on.ports[(0 : PortNo)].state ≠ .settling ∧ (full State.reset).mode = .unconfigured ∧
    on.audio.playing[(3 : Fin 16)] = none ∧ on.audio.delivered[(3 : Fin 16)] = none ∧ (full on).audio.current.length = (47 : Fin 48).val ∧
    ({ on with audio := { on.audio with playing := on.audio.playing.set 3 (some (flat 5)) } } : State).audio.playing[(3 : Fin 16)] =
      some (flat 5) := by decide +kernel

theorem witness_PassTakesItsValues :
    (full on).audio.current.length = 47 ∧ (full on).audio.pass = none ∧ (full on).mode ≠ .unconfigured ∧
    (full (on.setRoutes 3 [rt (.remote ⟨5, 3⟩) 7 0])).routes[(3 : Mix)][0]? = some (rt (.remote ⟨5, 3⟩) 7 0) ∧
    (full (on.setListen 4 (some (le .playing (some 7) [8])))).listens[(4 : Fin 32)] = some (le .playing (some 7) [8]) ∧
    (le .playing (some 7) [8]).playOne.2.2 = true := by decide +kernel

theorem witness_ListenEntryPlaysOneBlock :
    (le .priming (some 4) [4]).state ≠ .playing ∧ (le .playing (some 65535) [65535, 0]).play = some 65535 ∧
    ((le .playing (some 65535) [65535, 0]).buffer.map Stored.seq).Nodup ∧
    (⟨65535, Block.silence⟩ : Stored) ∈ (le .playing (some 65535) [65535, 0]).buffer ∧
    (∀ b ∈ (le .playing (some 7) [8]).buffer, b.seq ≠ 7) ∧ ({ le .playing (some 7) [8] with miss := 7 } : ListenEntry).miss = 7 := by
  decide +kernel

theorem witness_AccumulatedValueIsExact :
    (List.replicate 13 (⟨flat 1, 65535⟩ : Term)).length ≤ 13 ∧
    (∀ t ∈ List.replicate 13 (⟨flat 1, 65535⟩ : Term), t.weight ≤ 65535) := by decide +kernel

theorem witness_RoundingAndClipOfSample :
    7 ≤ 7 ∧ clipFlag 0 0 0 = .inside ∧ clipFlag 1 0 0 = .high ∧ clipFlag (-1) 0 0 = .low ∧ clipFlag 0 1 (-1) = .wrong := by decide

theorem witness_MixPassEndDelivers :
    on.audio.pass = none ∧ ({ on with audio := { on.audio with pass := some ⟨9, Vector.replicate 24 ⟨[], 0, 0, 0, 0⟩⟩ } } :
      State).audio.pass ≠ none ∧ on.ports[(0 : PortNo)].state = .disabled ∧
    (on.setPort 2 { pt .live with outbound := List.replicate 49 0 }).ports[(2 : PortNo)].state = .live ∧
    48 < (on.setPort 2 { pt .live with outbound := List.replicate 49 0 }).ports[(2 : PortNo)].outbound.length := by decide +kernel

theorem witness_CompletionCapturesSendingSources :
    (full on).audio.current.length = 47 ∧ (full on).audio.pass = none ∧ (full on).mode = .active ∧
    (full { on with mode := .silent }).audio.current.length = 47 ∧
    (full { on with mode := .silent }).audio.pass = none ∧ (full { on with mode := .silent }).mode = .silent ∧
    (full on).QueuesBounded := by
  unfold State.QueuesBounded
  decide +kernel

theorem witness_FieldResetIdlesPort :
    on.mode ≠ .unconfigured ∧ 7 < (8 : Word).toNat ∧ on.ports[(7 : PortNo)].state = .disabled ∧
    (on.setPort 7 (pt .holdoff)).ports[(7 : PortNo)].state = .holdoff := by decide +kernel

theorem witness_LeavingAdmittedStateEndsTalks :
    let s := (on.setPort 1 { pt .live with silenceDue := some 9, gapDue := some 9 }).setOut 4
      (some { ot 20 with origin := .field 1 })
    s.ports[(1 : PortNo)].state = .live ∧ s.ports[(1 : PortNo)].silenceDue = some 9 ∧ s.mode ≠ .unconfigured ∧
    (∀ i j : TalkNo, (s.outTalks[i].map OutTalk.origin) = some (.field 1) →
      (s.outTalks[j].map OutTalk.origin) = some (.field 1) → i = j) ∧
    (s.outTalks[(4 : TalkNo)].map OutTalk.origin) = some (.field 1) ∧ (∀ i : TalkNo, on.outTalks[i] = none) ∧
    (s.setPort 1 { pt .retraining with gapDue := some 9 }).ports[(1 : PortNo)].gapDue = some 9 ∧
    (let u := ({ on with clock := ⟨0, 0, 1012346⟩ } : State).setPort 1 { pt .retraining with stamps := reporter.take 16 }
     u.ports[(1 : PortNo)].stamps.length = 16 ∧
     trainingFault (u.ports[(1 : PortNo)].stamps ++ [u.clock.stampCounter]) = some .trainSpread) := by decide +kernel

theorem witness_WordsByStateOfPort :
    [PortState.disabled, .idle, .training, .checking, .holdoff, .settling, .live].map
      (fun st => (on.setPort 1 (pt st)).ports[(1 : PortNo)].state) =
    [.disabled, .idle, .training, .checking, .holdoff, .settling, .live] ∧
    ([0x00FFFFFF, 0x1FFFFFFF, 0x20000000, 0x30000000, 0x40000000, 0x50000000, 0x60000000, 0x70000000, 0xFFFFFFFF] :
      List Word).map (fun w => w.toNat / 268435456) = [0, 1, 2, 3, 4, 5, 6, 7, 15] := by decide +kernel

theorem witness_TrainWordsTakeStamps :
    (on.setPort 1 { pt .training with stamps := reporter.take 15 }).ports[(1 : PortNo)].stamps.length < 16 ∧
    (on.setPort 1 { pt .training with stamps := reporter.take 16 }).ports[(1 : PortNo)].stamps.length = 16 ∧
    trainingFault (reporter.take 16 ++ [1012293]) = none ∧ trainingFault (reporter.take 16 ++ [1012346]) = some .trainSpread ∧
    (pt .training).access = 0 ∧ ({ pt .training with access := 1 } : Port).access ≠ 0 ∧
    (on.setPort 1 (pt .retraining)).ports[(1 : PortNo)].state = .retraining := by decide +kernel

theorem witness_TrainingArithmetic : reporter.length = 17 ∧ 512 ≤ 512 ∧ 3072 ≤ 3072 := by decide

theorem witness_CodeWordsAndTrainingTimers :
    let p : Port := { pt .checking with access := 0x4A7193C5, codes := [0x0000, 0x4A71], codeDue := some 9, failures := 2 }
    (on.setPort 1 p).ports[(1 : PortNo)].state = .checking ∧ p.codes.length = 2 ∧ (pt .checking).codes.length < 2 ∧
    (0x0000#16 ++ 0x4A71#16 ++ (0x0093C5#24).setWidth 16 : BitVec 48) = p.access ∧
    (0x0000#16 ++ 0x4A71#16 ++ (0x0093C4#24).setWidth 16 : BitVec 48) ≠ p.access ∧ (pt .checking).failures < 2 ∧
    ({ pt .training with gapDue := some 9 } : Port).gapDue = some 9 ∧
    ({ pt .holdoff with holdoffDue := some 9 } : Port).holdoffDue = some 9 ∧ (pt .training).gapDue = none := by decide +kernel

theorem witness_ConvertersOfPort :
    let p : Port := { pt .live with elastic := [1, 2], outbound := [1, 2], activeIn := some 43634, activeOut := some 98432,
                                    phaseIn := 65535, phaseOut := 65535 }
    (on.setPort 1 p).ports[(1 : PortNo)].elastic = [1, 2] ∧ p.activeIn = some 43634 ∧ p.phaseIn < 65536 ∧
    p.activeOut = some 98432 ∧ p.phaseOut < 65536 ∧ (pt .live).elastic.length < 2 ∧ (pt .live).outbound.length < 2 ∧
    256 ≤ ({ pt .settling with elastic := List.replicate 256 0 } : Port).elastic.length ∧ (pt .idle).state ≠ .live := by
  decide +kernel

theorem witness_FieldTalkWordsActOnTalker :
    let s := on.setPort 1 (pt .live)
    s.cfg.number = some 12 ∧ s.ports[(1 : PortNo)].state = .live ∧ s.ports[(1 : PortNo)].target = some ⟨20, .mix, 3⟩ ∧
    (∀ n : TalkNo, s.outTalks[n] = none) ∧
    ((s.setOut 31 (some { ot 20 with origin := .field 1 })).outTalks[(31 : TalkNo)].map OutTalk.origin) = some (.field 1) ∧
    (let full := { s with outTalks := Vector.replicate 32 (some (ot 20)) }
     (∀ n : TalkNo, full.outTalks[n] ≠ none) ∧ (ot 20).origin ≠ .field 1 ∧
     (∀ n : TalkNo, (full.setOut 31 (some { ot 20 with origin := .field 1 })).outTalks[n] ≠ none)) ∧
    ({ pt .live with target := some ⟨63, .mix, 3⟩ } : Port).target = some ⟨63, .mix, 3⟩ := by decide +kernel

theorem witness_AlignmentAndRingStatus :
    on.ring.aligned = true ∧ on.ring.framing = .between ∧ State.reset.mode = .unconfigured ∧ on.ring.insertion.isSome = false ∧
    on.ring.buffer = [] ∧ on.ring.gapOwed = false ∧ ({ on.ring with gapOwed := true } : Ring).gapOwed = true ∧
    ({ on.ring with aligned := false } : Ring).aligned = false ∧ on.ring.status = .up ∧ State.reset.ring.status = .down ∧
    ({ on.ring with buffer := [⟨1, true⟩, ⟨2, false⟩] } : Ring).buffer = [⟨1, true⟩] ++ [⟨2, false⟩] ∧
    ({ on.ring with framing := .message ⟨2, .buffered, .copy, [0]⟩ } : Ring).framing = .message ⟨2, .buffered, .copy, [0]⟩ := by
  decide

theorem witness_HeadersAreClassified :
    on.ring.aligned = true ∧ on.mode ≠ .unconfigured ∧ on.ring.status = .up ∧ on.ring.framing = .between ∧
    on.cfg.number = some 12 ∧ bits 0x00004000 13 6 = 2 ∧ bits 0x00068000 13 6 = 52 ∧ bits 0x00066000 13 6 = 51 ∧
    bits 0x00606000 13 6 = 3 ∧ bits 0x00606000 19 6 = 12 ∧ bits 0x7C2E6000 25 6 = 62 ∧ bits 0x7A2E6000 25 6 = 61 ∧
    ({ on.ring with buffer := List.replicate 64 ⟨0, false⟩ } : Ring).buffer.length = 64 := by decide +kernel

theorem witness_MessageWordsAreForwarded :
    let m : Arrival := ⟨2, .buffered, .undecided, [0x0C2E6000]⟩
    ({ on.ring with framing := .message m } : Ring).framing = .message m ∧ 1 < m.left ∧
    ({ on.ring with aligned := false } : Ring).aligned = false ∧ ({ on.ring with status := .down } : Ring).status = .down ∧
    (on.setListen 0 (some (le .empty none []))).listens[(0 : Fin 32)] = some (le .empty none []) ∧
    (le .empty none []).source.station = originOf 0x0C2E6000 ∧ (le .empty none []).source.index.val = bits 0x1A000898 27 5 ∧
    copyGood [0x802870C0, 0x38000000, 0xB5293EBA] = true ∧ copyGood [0x802870C0, 0x38000000, 0xB5293EBB] = false ∧
    copyCommand [0x80287CC0] = none ∧ (on.ring.framing = .between) ∧ (⟨1, .buffered, .no, [0]⟩ : Arrival).left ≤ 1 ∧
    ({ on.ring with buffer := List.replicate 63 ⟨0, false⟩ } : Ring).buffer.length < 64 ∧
    64 ≤ ({ on.ring with buffer := List.replicate 64 ⟨0, false⟩ } : Ring).buffer.length ∧
    ({ on.ring with buffer := [⟨1, true⟩, ⟨0, false⟩] } : Ring).buffer = [⟨1, true⟩] ++ [⟨0, false⟩] := by decide +kernel

theorem witness_InsertionsBeginAndEnd :
    let b : Burst := ⟨3, 1, 2200, flat 0, 3⟩
    on.cfg.number = some 12 ∧ on.mode = .active ∧ on.ring.status = .up ∧ on.ring.insertion = none ∧ on.ring.buffer = [] ∧
    on.ring.gapOwed = false ∧ on.ring.out = .idle ∧ on.sched.notes = [] ∧ (∀ c : Cls, on.sched.queues[c] = []) ∧
    ({ on.sched with queues := on.sched.queues.set 1 [b] } : Scheduler).queues[(1 : Cls)] = [b] ∧ b.age < 4 ∧
    4 ≤ ({ b with age := 4 } : Burst).age ∧ on.sched.last[b.source] = none ∧ serialDiff b.seq 2200 ≤ 0 ∧
    ({ on.ring with insertion := some ⟨.burst b, []⟩ } : Ring).insertion = some ⟨.burst b, []⟩ ∧
    ({ on.ring with framing := .message ⟨2, .buffered, .copy, [0]⟩ } : Ring).framing = .message ⟨2, .buffered, .copy, [0]⟩ := by decide +kernel

/-- A late burst of C0 and, in C1, a late one, a stale one, the one selected and one after it. -/
theorem witness_InsertionsBeginAndEnd_selection :
    let b : Burst := ⟨3, 1, 2200, flat 0, 3⟩
    let old : Burst := { b with age := 4 }
    let stale : Burst := { b with source := 5, seq := 2199 }
    let s : State := { on with sched := { on.sched with
      queues := (on.sched.queues.set 0 [old]).set 1 [old, stale, b, b], last := on.sched.last.set 5 (some ⟨2199, 0⟩) } }
    s.sched.notes = [] ∧ s.sched.queues[(1 : Cls)] = [old, stale] ++ b :: [b] ∧
    (∀ d : Cls, d < 1 → ∀ x ∈ s.sched.queues[d], 4 ≤ x.age) ∧ 4 ≤ old.age ∧ stale.age < 4 ∧
    ((s.sched.last[stale.source].map fun r => decide (serialDiff stale.seq r.seq ≤ 0)) = some true) ∧ ¬ 4 ≤ b.age ∧
    s.sched.last[b.source] = none := by decide +kernel

theorem witness_CopiesThatReachNoOwner :
    on.cfg.number = some 12 ∧ State.reset.mode = .unconfigured ∧ on.mode ≠ .unconfigured ∧ on.ring.status = .up ∧
    State.reset.ring.status = .down ∧ on.cfg.number ≠ some 5 ∧ on.cfg.number ≠ some 14 ∧ (63 : Station).val = 63 ∧ (14 : Station).val ≠ 63 ∧ (14 : Station) ≠ 12 ∧ 62 ≤ (62 : Fin 64).val ∧ (61 : Fin 64).val < 62 ∧
    on.ring.handOff = [] ∧
    (let x : Instr := .talkEnd true 5 63 9
     let y : Instr := .join true 5 12 24 1
     let s : State := { on with ring := { on.ring with handOff := [x, y] } }
     s.mode ≠ .unconfigured ∧ s.ring.status = .up ∧ s.cfg.number ≠ some 5 ∧ s.cfg.number = some 12 ∧
     s.ring.handOff = x :: [y] ∧ x ≠ y) := by decide

theorem witness_BurstReachesListenEntry :
    let s := on.setListen 4 (some (le .playing (some 4000) [4000, 4002]))
    s.mode ≠ .unconfigured ∧ s.ring.status = .up ∧ s.cfg.number = some 12 ∧ (5 : Station) ≠ 12 ∧ s.ring.handOff = [] ∧
    s.listens[(4 : Fin 32)] = some (le .playing (some 4000) [4000, 4002]) ∧ s.findListen ⟨5, 3⟩ = some 4 ∧
    serialDiff 3999 4000 < 0 ∧ 8 ≤ serialDiff 4008 4000 ∧ serialDiff 4007 4000 < 8 ∧ 0 ≤ serialDiff 4000 4000 ∧
    (le .empty none []).state = .empty ∧ (∀ k : Fin 32, on.listens[k] = none) := by decide +kernel

theorem witness_PresenceUpdatesRoster :
    (present 62 on).roster[(62 : Fin 63)] = ⟨true, some 5, some 0, 1, 0, 0⟩ ∧ on.roster[(62 : Fin 63)].present = false ∧
    on.mode ≠ .unconfigured ∧ on.ring.status = .up ∧ on.cfg.number = some 12 ∧ (62 : Station) ≠ 12 ∧ on.ring.handOff = [] ∧
    (some 5 : Option Seq) ≠ some 6 ∧ (61 : Fin 64).val < 62 ∧
    (on.setListen 4 (some { le .empty none [] with absent := true })).listens[(4 : Fin 32)] =
      some { le .empty none [] with absent := true } ∧ (le .empty none []).source.station = 5 := by decide +kernel

theorem witness_PresenceTimersAndDuplicate :
    on.presenceDue = none ∧ ({ on with presenceDue := some 2457600 } : State).presenceDue = some 2457600 ∧ on.mode = .active ∧
    on.ring.status = .up ∧ on.cfg.startStamp = some 0x41A0 ∧ State.reset.mode ≠ .active ∧
    (present 62 on).roster[(62 : Fin 63)].lastHeard = some 0 ∧ (present 62 on).roster[(62 : Fin 63)].present = true ∧
    on.roster[(62 : Fin 63)].present = false ∧ on.ring.handOff = [] ∧ on.cfg.startStamp ≠ some 0x0C37 := by decide +kernel

theorem witness_SubscriptionsAreKept :
    let s := { present 5 on with sends := on.sends.set 23 [⟨5, 1, 0⟩] }
    s.mode ≠ .unconfigured ∧ s.ring.status = .up ∧ s.cfg.number = some 12 ∧ (12 : Station).val ≠ 63 ∧ (5 : Station) ≠ 12 ∧
    s.ring.handOff = [] ∧ s.isPresent 5 = true ∧ on.isPresent 5 = false ∧ 24 ≤ (24 : Fin 32).val ∧
    (⟨5, 1, 0⟩ : Subscriber) ∈ s.sends[(23 : SourceNo)] ∧
    (∀ y ∈ s.sends[(23 : SourceNo)], y.station = 5 → y = ⟨5, 1, 0⟩) ∧ (∀ x ∈ s.sends[(0 : SourceNo)], x.station ≠ 5) ∧
    (on.setListen 4 (some { le .empty none [] with lastJoin := some 0 })).listens[(4 : Fin 32)] =
      some { le .empty none [] with lastJoin := some 0 } ∧ on.listens[(4 : Fin 32)] = none ∧
    (le .empty none []).lastJoin = none ∧
    ({ on.ring with handOff := [.leave true 5 12 23] } : Ring).handOff = [.leave true 5 12 23] := by decide +kernel

theorem witness_StepKeepsCapacities :
    State.reset.EventsBounded ∧ State.reset.QueuesBounded ∧ State.reset.BufferBounded ∧ State.reset.PortBuffersBounded ∧
    State.reset.CountersBounded ∧ State.reset.GainsBounded ∧ State.reset.RoutesWithin ∧ State.reset.TalksWithin ∧
    State.reset.RepliesWithin ∧ (stateOf State.reset (step State.reset)).clock.now = 1 := by
  unfold State.EventsBounded State.QueuesBounded State.BufferBounded State.PortBuffersBounded State.CountersBounded
    State.GainsBounded State.RoutesWithin State.TalksWithin State.RepliesWithin
  decide +kernel

theorem witness_StepKeepsCapacities_quiet : State.reset.QuietUnlessActive ∧ State.reset.BuffersInWindow := by
  refine ⟨fun _ => by decide +kernel, fun k e he => ?_⟩
  have all : ∀ k : Fin 32, State.reset.listens[k] = none := by decide +kernel
  rw [all k] at he
  cases he

theorem witness_StepKeepsTablesTrue_counts : State.reset.HoldersCountGranted ∧ State.reset.ListensFollowRoutes := by
  have routes : ∀ m : Mix, State.reset.routes[m] = [] := by decide +kernel
  have talks : ∀ m : Mix, State.reset.talks[m].granted = [] := by decide +kernel
  have listens : ∀ k : Fin 32, State.reset.listens[k] = none := by decide +kernel
  refine ⟨fun m => ?_, fun k e he => ?_, fun r h => absurd rfl h⟩
  · rw [routes m, talks m]
    simp
  · rw [listens k] at he
    cases he

theorem witness_StepKeepsTablesTrue :
    State.reset.MixMinus ∧ State.reset.RoutesBounded ∧ State.reset.SlotsFilled ∧ State.reset.KeysUnique ∧
    State.reset.EmptyWhileUnconfigured ∧ State.reset.ReturnTalksAdmitted := by
  unfold State.MixMinus State.RoutesBounded State.SlotsFilled State.KeysUnique State.EmptyWhileUnconfigured
    State.ReturnTalksAdmitted
  decide +kernel

end Sys2Proof.Tests
end

