-- ==== Sys2Proof/Proofs/ReadRoutes.lean ====
section
/-!
SUPPORT. How an argument word reads back as a number in a range, and what a read of one number answers on each side of
its range (R186, R190); then READ-ROUTES (R5).
-/

namespace Sys2Proof.Machine

/-! ### An argument word as a number in a range -/

@[simp] theorem arg_zero_cons (w : Word) (ws : List Word) : arg (w :: ws) 0 = w.toNat := rfl

theorem word_toNat_of_lt {n : Nat} (h : n < 2 ^ 32) : (word n).toNat = n := Nat.mod_eq_of_lt h

theorem argFin_of_arg_eq {n : Nat} {args : List Word} {i : Nat} {k : Fin n} (h : arg args i = k) :
    argFin n args i = some k := by
  simp [argFin, h]

theorem argFin_of_le_arg {n : Nat} {args : List Word} {i : Nat} (h : n ≤ arg args i) : argFin n args i = none := by
  simp [argFin, h]

/-! ### A read of one number -/

/-- A read of a number in its range answers DONE with the words of its place (R190). -/
theorem State.read_word (s : State) (code : BitVec 8) {n : Nat} (hn : n ≤ 2 ^ 32) (k : Fin n) (words : Fin n → List Word) :
    s.read code n [word k.val] words = s.respond code .done .none (words k) := by
  have hk : argFin n [word k.val] 0 = some k :=
    argFin_of_arg_eq (word_toNat_of_lt (Nat.lt_of_lt_of_le k.isLt hn))
  simp [State.read, State.command, State.done, hk]

/-- A read of a number past its range answers BAD_ARG (R186). -/
theorem State.read_out_of_range (s : State) (code : BitVec 8) {n : Nat} {w : Word} (hw : n ≤ w.toNat)
    (words : Fin n → List Word) : s.read code n [w] words = s.respond code .badArg .none [] := by
  have hnone : argFin n [w] 0 = none := argFin_of_le_arg hw
  simp [State.read, State.command, State.badArg, hnone]

/-! ### READ-ROUTES -/

theorem exec_readRoutes (args : List Word) (s : State) : exec (.readRoutes args) s =
    .next (s.read 0x20 24 args fun m => listWords (s.routes[m].map (Route.words m))) := rfl

theorem exec_readRoutes_word (s : State) (m : Mix) : exec (.readRoutes [word m.val]) s =
    .next (s.respond 0x20 .done .none (listWords (s.routes[m].map (Route.words m)))) := by
  rw [exec_readRoutes, State.read_word s _ (by decide)]

/-- The count word, then each item's words in order, over the items themselves. -/
theorem listWords_map {α : Type} (f : α → List Word) (items : List α) :
    listWords (items.map f) = word items.length :: items.flatMap f := by
  simp [listWords, List.flatMap_def]

end Sys2Proof.Machine

namespace Sys2Proof.Proofs

open Sys2Proof.Machine

/-- Settles O7: a mix number in range reads back as itself, so the answer lists its entries; a table that is empty until CONFIGURE lists none. -/
theorem readRoutesReturnsEntries : Obligations.ReadRoutesReturnsEntries := by
  refine ⟨fun s m => ?entries, fun s w hw => ?outOfRange, fun s m hempty hmode => ?unconfigured⟩
  case entries =>
    rw [exec_readRoutes_word, listWords_map]
    rfl
  case outOfRange =>
    rw [exec_readRoutes, State.read_out_of_range s _ (Nat.succ_le_of_lt hw)]
  case unconfigured =>
    obtain ⟨htables, -⟩ := hempty hmode
    obtain ⟨hroutes, -⟩ := htables m
    rw [exec_readRoutes_word, hroutes]
    rfl

end Sys2Proof.Proofs
end

/-!
SUPPORT. The range of one term's product and of the sum of the products of a mix, and the sum of equal terms, which
reaches the ends of that range (R26).
-/

namespace Sys2Proof.Machine

/-! ### One term -/

/-- What one term adds to sample `n`: its input sample times its weight (R26). -/
def Term.product (t : Term) (n : Fin 48) : Int := t.block[n].toInt * (t.weight : Int)

theorem Term.product_le {t : Term} (n : Fin 48) (hw : t.weight ≤ 65535) : t.product n ≤ 8388607 * 65535 := by
  have hsample : t.block[n].toInt ≤ 8388607 := BitVec.toInt_le
  have hweight : (t.weight : Int) ≤ 65535 := by omega
  exact Int.mul_le_mul hsample hweight (Int.natCast_nonneg _) (by decide)

theorem Term.le_product {t : Term} (n : Fin 48) (hw : t.weight ≤ 65535) : -8388608 * 65535 ≤ t.product n := by
  have hsample : -8388608 ≤ t.block[n].toInt := BitVec.le_toInt _
  have hweight : (t.weight : Int) ≤ 65535 := by omega
  calc -8388608 * 65535
      _ ≤ -8388608 * (t.weight : Int) := Int.mul_le_mul_of_nonpos_left (by decide) hweight
      _ ≤ t.product n := Int.mul_le_mul_of_nonneg_right hsample (Int.natCast_nonneg _)

theorem natAbs_sample_toInt_le (x : Sample) : x.toInt.natAbs ≤ 8388608 := by
  have hlow : -8388608 ≤ x.toInt := BitVec.le_toInt x
  have hhigh : x.toInt ≤ 8388607 := BitVec.toInt_le
  omega

theorem Term.natAbs_product_lt {t : Term} (n : Fin 48) (hw : t.weight ≤ 65535) : (t.product n).natAbs < 2 ^ 39 := by
  have hlow := t.le_product n hw
  have hhigh := t.product_le n hw
  omega

/-! ### The sum over the terms -/

theorem accumulate_eq_sum_product (terms : List Term) (n : Fin 48) :
    accumulate terms n = (terms.map fun t => t.product n).sum := rfl

theorem accumulate_perm {terms other : List Term} (h : terms.Perm other) (n : Fin 48) :
    accumulate other n = accumulate terms n :=
  (h.map (Term.product · n)).sum_eq.symm

theorem accumulate_le {terms : List Term} (n : Fin 48) (hw : ∀ t ∈ terms, t.weight ≤ 65535) :
    accumulate terms n ≤ terms.length * (8388607 * 65535) := by
  have hsum := (terms.map fun t => t.product n).sum_le_card_nsmul (8388607 * 65535)
    (List.forall_mem_map.2 fun t ht => t.product_le n (hw t ht))
  simpa [accumulate_eq_sum_product] using hsum

theorem le_accumulate {terms : List Term} (n : Fin 48) (hw : ∀ t ∈ terms, t.weight ≤ 65535) :
    terms.length * (-8388608 * 65535) ≤ accumulate terms n := by
  have hsum := (terms.map fun t => t.product n).card_nsmul_le_sum (-8388608 * 65535)
    (List.forall_mem_map.2 fun t ht => t.le_product n (hw t ht))
  simpa [accumulate_eq_sum_product] using hsum

theorem accumulate_replicate (k : Nat) (x : Sample) (w : Nat) (n : Fin 48) :
    accumulate (List.replicate k ⟨Vector.replicate 48 x, w⟩) n = k * (x.toInt * w) := by
  simp [accumulate]

/-- Thirteen equal terms at full weight; with `x` at either end of its range they reach an extreme. -/
theorem exists_accumulate_eq (x : Sample) : ∃ terms : List Term, terms.length = 13 ∧
    (∀ t ∈ terms, t.weight = 65535) ∧ ∀ n, accumulate terms n = 13 * (x.toInt * 65535) :=
  ⟨List.replicate 13 ⟨Vector.replicate 48 x, 65535⟩, List.length_replicate,
    fun _ ht => congrArg Term.weight (List.eq_of_mem_replicate ht), accumulate_replicate 13 x 65535⟩

end Sys2Proof.Machine

namespace Sys2Proof.Proofs

open Sys2Proof.Machine

/-- Settles O36: each product lies between the extremes of one term, so at most 13 of them lie between 13 times those; 13 equal terms at full weight and full scale reach either end. -/
theorem accumulatedValueIsExact : Obligations.AccumulatedValueIsExact := by
  refine ⟨fun terms n hlen hw => ?sum, fun t n hw => ⟨natAbs_sample_toInt_le _, t.natAbs_product_lt n hw⟩,
    ?highest, ?lowest⟩
  case sum =>
    have hlow := le_accumulate n hw
    have hhigh := accumulate_le n hw
    exact ⟨rfl, fun other h => accumulate_perm h n, by omega, by omega, by omega, by decide⟩
  case highest => exact exists_accumulate_eq 0x7FFFFF
  case lowest => exact exists_accumulate_eq 0x800000

end Sys2Proof.Proofs

/-!
SUPPORT. What a jitter buffer without a repeated sequence finds and drops at one sequence (R151), the bounds of a halved
sample, and the plays of a listen entry at a pass start: none, a hit, a miss (R152 to R154).
-/

namespace Sys2Proof.Machine

/-! ### A buffer at one sequence -/

section
variable {buffer : List Stored}

theorem eq_of_seq_eq (hnodup : (buffer.map Stored.seq).Nodup) {a b : Stored} (ha : a ∈ buffer) (hb : b ∈ buffer)
    (h : a.seq = b.seq) : a = b :=
  List.inj_on_of_nodup_map hnodup ha hb h

theorem find?_seq_eq_some (hnodup : (buffer.map Stored.seq).Nodup) {b : Stored} (hb : b ∈ buffer) :
    buffer.find? (fun x => x.seq == b.seq) = some b := by
  have hfound : (buffer.find? fun x => x.seq == b.seq).isSome := List.find?_isSome.2 ⟨b, hb, beq_self_eq_true _⟩
  obtain ⟨c, hc⟩ := Option.isSome_iff_exists.1 hfound
  have hseq : c.seq = b.seq := by simpa using List.find?_some hc
  rw [hc, eq_of_seq_eq hnodup (List.mem_of_find?_eq_some hc) hb hseq]

/-- Dropping a block's sequence drops that block alone. -/
theorem filter_seq_ne_eq_erase (hnodup : (buffer.map Stored.seq).Nodup) {b : Stored} (hb : b ∈ buffer) :
    buffer.filter (fun x => x.seq != b.seq) = buffer.erase b := by
  rw [(List.Nodup.of_map Stored.seq hnodup).erase_eq_filter]
  refine List.filter_congr fun x hx => ?_
  have hiff : x.seq = b.seq ↔ x = b := ⟨eq_of_seq_eq hnodup hx hb, congrArg Stored.seq⟩
  rw [Bool.eq_iff_iff, bne_iff_ne, bne_iff_ne, Ne, hiff]

end

/-! ### A halved sample -/

theorem toInt_halved (x : Sample) : (halved x).toInt = x.toInt / 2 := by
  rw [halved, BitVec.toInt_sshiftRight, Int.shiftRight_eq_div_pow]
  rfl

/-! ### The play of an entry -/

namespace ListenEntry

variable {e : ListenEntry} {p : Seq}

theorem concealment_getElem_of_miss_eq_zero (h : e.miss = 0) (n : Fin 48) : e.concealment[n] = halved e.last[n] := by
  simp [concealment, h]

/-- The first concealment is half the last played block, rounded down. -/
theorem concealment_bounds_last (h : e.miss = 0) (n : Fin 48) :
    2 * e.concealment[n].toInt ≤ e.last[n].toInt ∧ e.last[n].toInt ≤ 2 * e.concealment[n].toInt + 1 := by
  rw [concealment_getElem_of_miss_eq_zero h, toInt_halved]
  constructor <;> omega

theorem concealment_of_miss_pos (h : 0 < e.miss) : e.concealment = Block.silence :=
  if_neg (Nat.ne_of_gt h)

theorem missed_of_miss_lt (h : e.miss < 7) :
    e.missed p = { e with conceal := satInc e.conceal, miss := e.miss + 1, play := some (p + 1) } :=
  if_neg (show ¬ 8 ≤ e.miss + 1 by omega)

theorem missed_of_le_miss (h : 7 ≤ e.miss) : e.missed p = ({ e with conceal := satInc e.conceal } : ListenEntry).emptied :=
  if_pos (show 8 ≤ e.miss + 1 by omega)

theorem playOne_of_state_ne (h : e.state ≠ .playing) : e.playOne = (Block.silence, e, false) := by
  unfold playOne
  split
  case h_1 hstate _ => exact absurd hstate h
  case h_2 => rfl

theorem playOne_hit (hstate : e.state = .playing) (hplay : e.play = some p) {b : Stored}
    (hfound : e.buffer.find? (fun x => x.seq == p) = some b) :
    e.playOne = (b.samples,
      { e with buffer := e.buffer.filter (fun x => x.seq != p), last := b.samples, miss := 0, play := some (p + 1) },
      false) := by
  simp only [playOne, hstate, hplay, hfound]

theorem playOne_miss (hstate : e.state = .playing) (hplay : e.play = some p) (habsent : ∀ b ∈ e.buffer, b.seq ≠ p) :
    e.playOne = (e.concealment, e.missed p, true) := by
  have hfound : e.buffer.find? (fun x => x.seq == p) = none :=
    List.find?_eq_none.2 fun b hb heq => habsent b hb (eq_of_beq heq)
  simp only [playOne, hstate, hplay, hfound]

end ListenEntry

end Sys2Proof.Machine

namespace Sys2Proof.Proofs

open Sys2Proof.Machine

/-- Settles O35, by the three plays of an entry: with no sequence stored twice, a hit finds and drops the one block of the play sequence; a miss is concealed by the last block halved, or by silence, and the streak decides whether it empties the entry. -/
theorem listenEntryPlaysOneBlock : Obligations.ListenEntryPlaysOneBlock := by
  refine fun e => ⟨ListenEntry.playOne_of_state_ne, fun p hstate hplay hnodup => ⟨?hit, fun habsent => ?miss⟩⟩
  case hit =>
    rintro b hb rfl
    rw [ListenEntry.playOne_hit hstate hplay (find?_seq_eq_some hnodup hb), filter_seq_ne_eq_erase hnodup hb]
  case miss =>
    rw [ListenEntry.playOne_miss hstate hplay habsent]
    exact ⟨rfl, ListenEntry.concealment_bounds_last, ListenEntry.concealment_of_miss_pos, ListenEntry.missed_of_miss_lt,
      ListenEntry.missed_of_le_miss⟩

end Sys2Proof.Proofs

/-!
SUPPORT. How a change at one place of a table shows at each place and in a sum over all places; then the relation of
two states under which every capacity of section 1.3, R37, R42, R43, R48, R69, R98, R130, R140, R151, R174, R191 and
R193 that the first meets the second meets too.
-/

namespace Sys2Proof.Machine

/-! ### A table changed at one place -/

section
variable {α : Type} {n : Nat}

theorem vector_set_getElem (v : Vector α n) (k j : Fin n) (x : α) : (v.set k x)[j] = if k = j then x else v[j] := by
  simp [Vector.getElem_set, Fin.ext_iff]

@[simp] theorem vector_set_getElem_self (v : Vector α n) (k : Fin n) (x : α) : (v.set k x)[k] = x := by
  simp

theorem vector_set_getElem_ne (v : Vector α n) {k j : Fin n} (x : α) (h : k ≠ j) : (v.set k x)[j] = v[j] := by
  rw [vector_set_getElem, if_neg h]

/-- A property of every place of a table, one of which is replaced. -/
theorem forall_vector_set {P : Fin n → α → Prop} {v : Vector α n} {k : Fin n} {x : α} (h : ∀ j, P j v[j]) (hx : P k x) :
    ∀ j, P j (v.set k x)[j] := by
  intro j
  rw [vector_set_getElem]
  split
  case isTrue hj => exact hj ▸ hx
  case isFalse => exact h j

/-- Replacing one place moves a sum over all places by the difference at that place. -/
theorem sum_vector_set (f : α → Nat) (v : Vector α n) (k : Fin n) (x : α) :
    ((List.finRange n).map fun j => f (v.set k x)[j]).sum + f v[k] = ((List.finRange n).map fun j => f v[j]).sum + f x := by
  rw [← Fin.sum_univ_def, ← Fin.sum_univ_def, ← Finset.add_sum_erase _ _ (Finset.mem_univ k),
    ← Finset.add_sum_erase (a := k) _ (fun j => f v[j]) (Finset.mem_univ k), vector_set_getElem_self]
  have hrest : ∑ j ∈ Finset.univ.erase k, f (v.set k x)[j] = ∑ j ∈ Finset.univ.erase k, f v[j] :=
    Finset.sum_congr rfl fun j hj => by rw [vector_set_getElem_ne _ _ (Finset.ne_of_mem_erase hj).symm]
  omega

end

/-! ### The counters -/

theorem satInc_le {n : Nat} (h : n ≤ 65535) : satInc n ≤ 65535 := by
  unfold satInc
  split <;> omega

theorem satInc_eq_min {n : Nat} (h : n ≤ 65535) : satInc n = min (n + 1) 65535 := by
  unfold satInc
  split <;> omega

/-- The sixteen counters, in R193's order. -/
def Counters.values (c : Counters) : List Nat :=
  [c.check, c.partialCopies, c.ringIgnored, c.dropOld, c.lateTx, c.stale, c.noteDrop, c.lateRx, c.dup, c.resync,
    c.conceal, c.overrun, c.underrun, c.arbiterIgnored, c.sendIgnored, c.talkerIgnored]

/-- Every counter is within 16 bits (R193). -/
def Counters.Within (c : Counters) : Prop := ∀ w ∈ c.values, w ≤ 65535

theorem State.countersBounded_iff (s : State) : s.CountersBounded ↔ s.counters.Within := Iff.rfl

/-- A change of the counters that keeps them within 16 bits. -/
def Counters.Safe (f : Counters → Counters) : Prop := ∀ c : Counters, c.Within → (f c).Within

/-- The sixteen increments of the counters. -/
def Counters.increments : List (Counters → Counters) :=
  [Counters.incCheck, Counters.incPartial, Counters.incRingIgnored, Counters.incDropOld, Counters.incLateTx,
    Counters.incStale, Counters.incNoteDrop, Counters.incLateRx, Counters.incDup, Counters.incResync,
    Counters.incConceal, Counters.incOverrun, Counters.incUnderrun, Counters.incArbiterIgnored,
    Counters.incSendIgnored, Counters.incTalkerIgnored]

theorem Counters.increments_safe : ∀ f ∈ Counters.increments, Counters.Safe f := by
  intro f hf c hc
  simp only [Counters.Within, Counters.values, List.forall_mem_cons] at hc
  simp only [Counters.increments, List.mem_cons, List.not_mem_nil, or_false] at hf
  rcases hf with rfl | rfl | rfl | rfl | rfl | rfl | rfl | rfl | rfl | rfl | rfl | rfl | rfl | rfl | rfl | rfl <;>
    simp [Counters.Within, Counters.values, hc, satInc_le, Counters.incCheck, Counters.incPartial,
      Counters.incRingIgnored, Counters.incDropOld, Counters.incLateTx, Counters.incStale, Counters.incNoteDrop,
      Counters.incLateRx, Counters.incDup, Counters.incResync, Counters.incConceal, Counters.incOverrun,
      Counters.incUnderrun, Counters.incArbiterIgnored, Counters.incSendIgnored, Counters.incTalkerIgnored]

theorem Counters.Safe.repeat {f : Counters → Counters} (hf : Counters.Safe f) (n : Nat) :
    Counters.Safe (Nat.repeat f n) := by
  induction n with
  | zero => exact fun _ h => h
  | succ n ih => exact fun c h => hf _ (ih c h)

theorem Arrived.count_safe (a : Arrived) : Counters.Safe a.count := by
  cases a with
  | stored => exact fun _ h => h
  | late => exact Counters.increments_safe _ (by simp [Counters.increments, Arrived.count, funext_iff])
  | dup => exact Counters.increments_safe _ (by simp [Counters.increments, Arrived.count, funext_iff])
  | resync => exact Counters.increments_safe _ (by simp [Counters.increments, Arrived.count, funext_iff])

/-! ### Parts of the state within their ranges -/

/-- A listen entry's buffer is in its window (R151). -/
def ListenEntry.InWindow (e : ListenEntry) : Prop :=
  (e.buffer.map Stored.seq).Nodup ∧
    match e.play with
    | none => e.buffer = [] ∧ e.state = .empty
    | some p => e.state ≠ .empty ∧ ∀ b ∈ e.buffer, 0 ≤ serialDiff b.seq p ∧ serialDiff b.seq p ≤ 7

theorem State.buffersInWindow_iff (s : State) :
    s.BuffersInWindow ↔ ∀ k : Fin 32, ∀ e ∈ s.listens[k], e.InWindow := Iff.rfl

/-- A port's two buffers are within their capacities (R174). -/
def Port.Within (p : Port) : Prop := p.elastic.length ≤ 256 ∧ p.outbound.length ≤ 96

theorem State.portBuffersBounded_iff (s : State) : s.PortBuffersBounded ↔ ∀ k : PortNo, s.ports[k].Within := Iff.rfl

/-- How many records a mix's two lists hold. -/
def MixTalks.size (x : MixTalks) : Nat := x.granted.length + x.waiting.length

theorem State.talksWithin_iff (s : State) : s.TalksWithin ↔ s.talkCount ≤ 48 := Iff.rfl

theorem State.routesWithin_iff (s : State) : s.RoutesWithin ↔ tableSize s.routes ≤ 192 := Iff.rfl

/-! ### The relation -/

/-- Every capacity and range that `s` meets, `t` meets. -/
structure State.CapStep (s t : State) : Prop where
  events : s.EventsBounded → t.EventsBounded := by exact id
  queues : s.QueuesBounded → t.QueuesBounded := by exact id
  quiet : s.QuietUnlessActive → t.QuietUnlessActive := by exact id
  buffer : s.BufferBounded → t.BufferBounded := by exact id
  portBuffers : s.PortBuffersBounded → t.PortBuffersBounded := by exact id
  counters : s.CountersBounded → t.CountersBounded := by exact id
  gains : s.GainsBounded → t.GainsBounded := by exact id
  windows : s.BuffersInWindow → t.BuffersInWindow := by exact id
  routes : s.RoutesWithin → t.RoutesWithin := by exact id
  talks : s.TalksWithin → t.TalksWithin := by exact id
  replies : s.RepliesWithin → t.RepliesWithin := by exact id

variable {s t u : State}

theorem State.CapStep.refl (s : State) : s.CapStep s := {}

theorem State.CapStep.trans (h : s.CapStep t) (g : t.CapStep u) : s.CapStep u where
  events := g.events ∘ h.events
  queues := g.queues ∘ h.queues
  quiet := g.quiet ∘ h.quiet
  buffer := g.buffer ∘ h.buffer
  portBuffers := g.portBuffers ∘ h.portBuffers
  counters := g.counters ∘ h.counters
  gains := g.gains ∘ h.gains
  windows := g.windows ∘ h.windows
  routes := g.routes ∘ h.routes
  talks := g.talks ∘ h.talks
  replies := g.replies ∘ h.replies

theorem foldl_capStep {α : Type} (f : State → α → State) (hf : ∀ (s : State) (a : α), s.CapStep (f s a)) (l : List α) :
    ∀ s : State, s.CapStep (l.foldl f s) := by
  induction l with
  | nil => exact fun s => .refl s
  | cons a l ih => exact fun s => (hf s a).trans (ih (f s a))

/-! ### Elementary updates -/

theorem EventQueue.push_cases (q : EventQueue) (e : Event) :
    (q.queue.length < 64 ∧ q.push e = ⟨q.queue ++ [e], q.lost⟩) ∨
    (64 ≤ q.queue.length ∧ q.push e = ⟨q.queue, satInc q.lost⟩) := by
  unfold EventQueue.push
  split
  case isTrue h => exact .inl ⟨h, rfl⟩
  case isFalse h => exact .inr ⟨Nat.le_of_not_lt h, rfl⟩

theorem State.emit_capStep (s : State) (e : Event) : s.CapStep (s.emit e) where
  events h := by
    obtain ⟨hlen, hlost⟩ := h
    show (s.events.push e).queue.length ≤ 64 ∧ (s.events.push e).lost ≤ 65535
    rcases s.events.push_cases e with ⟨hlt, he⟩ | ⟨hge, he⟩ <;> rw [he]
    · exact ⟨by simpa using hlt, hlost⟩
    · exact ⟨hlen, satInc_le hlost⟩

theorem State.count_capStep (s : State) {f : Counters → Counters} (hf : Counters.Safe f) : s.CapStep (s.count f) where
  counters := hf s.counters

/-- Each of the sixteen increments is safe to count. -/
theorem State.count_increment_capStep (s : State) {f : Counters → Counters} (hf : f ∈ Counters.increments) :
    s.CapStep (s.count f) := s.count_capStep (Counters.increments_safe f hf)

theorem State.setListen_capStep (s : State) (k : Fin 32) (o : Option ListenEntry)
    (ho : s.BuffersInWindow → ∀ e ∈ o, e.InWindow) : s.CapStep (s.setListen k o) where
  windows h := forall_vector_set (P := fun _ o => ∀ e ∈ o, ListenEntry.InWindow e) h (ho h)

theorem tableSize_set (v : Vector (List Route) 24) (m : Mix) (l : List Route) :
    tableSize (v.set m l) + v[m].length = tableSize v + l.length := sum_vector_set List.length v m l

theorem State.setRoutes_capStep (s : State) (m : Mix) (l : List Route)
    (hl : s.RoutesWithin → l.length ≤ s.routes[m].length ∨ tableSize s.routes < 192 ∧ l.length ≤ s.routes[m].length + 1) :
    s.CapStep (s.setRoutes m l) where
  routes h := by
    have hsum := tableSize_set s.routes m l
    rw [State.routesWithin_iff, State.setRoutes_routes]
    have hsize := s.routesWithin_iff.1 h
    have hcase := hl h
    omega

theorem State.talkCount_setTalks (s : State) (m : Mix) (x : MixTalks) :
    (s.setTalks m x).talkCount + s.talks[m].size = s.talkCount + x.size := sum_vector_set MixTalks.size s.talks m x

theorem State.setTalks_capStep (s : State) (m : Mix) (x : MixTalks)
    (hx : s.TalksWithin → x.size ≤ s.talks[m].size ∨ s.talkCount < 48 ∧ x.size ≤ s.talks[m].size + 1) :
    s.CapStep (s.setTalks m x) where
  talks h := by
    have hsum := s.talkCount_setTalks m x
    rw [State.talksWithin_iff]
    have hsize := s.talksWithin_iff.1 h
    have hcase := hx h
    omega

theorem State.setOut_capStep (s : State) (n : TalkNo) (o : Option OutTalk)
    (ho : s.RepliesWithin → ∀ t ∈ o, t.replies.length ≤ 8) : s.CapStep (s.setOut n o) where
  replies h := forall_vector_set (P := fun _ (o : Option OutTalk) => ∀ t ∈ o, t.replies.length ≤ 8) h (ho h)

theorem State.setPort_capStep (s : State) (k : PortNo) (p : Port) (hp : s.PortBuffersBounded → p.Within) :
    s.CapStep (s.setPort k p) where
  portBuffers h := forall_vector_set (P := fun _ p => Port.Within p) h (hp h)

theorem State.setRing_capStep (s : State) (r : Ring) (hr : s.BufferBounded → r.buffer.length ≤ 64) :
    s.CapStep (s.setRing r) where
  buffer := hr

theorem State.reach_capStep (s : State) (t : Nat) : s.CapStep (s.reach t) where
  buffer h := (s.reach_outStep t).buffer.length_le.trans h

theorem State.respond_capStep (s : State) (c : BitVec 8) (r : Result) (w : RefusalReason) (ws : List Word) :
    s.CapStep (s.respond c r w ws) := {}

/-- Handing a note keeps the note queue within 16 and a station that is not ACTIVE quiet (R130, R135, R140). -/
theorem State.hand_capStep (s : State) (n : Note) : s.CapStep (s.hand n) := by
  rcases s.hand_cases n with ⟨hmode, hlen, h⟩ | ⟨-, -, h⟩ | ⟨-, h⟩ <;> rw [h]
  · exact { queues := fun hq => ⟨by simpa using hlen, hq.2⟩, quiet := fun _ hne => absurd hmode hne }
  · exact s.count_increment_capStep (by simp [Counters.increments])
  · exact .refl s

end Sys2Proof.Machine

/-!
SUPPORT. The operations of the listen table and of the route table keep every capacity (R8, R10 to R15, R148 to R154).
-/

namespace Sys2Proof.Machine

/-! ### Listen entries and their windows -/

namespace ListenEntry

theorem created_inWindow (r : Remote) (n : Nat) (c : Cls) (a : Bool) : (created r n c a).InWindow :=
  ⟨List.nodup_nil, rfl, rfl⟩

theorem emptied_inWindow (e : ListenEntry) : e.emptied.InWindow := ⟨List.nodup_nil, rfl, rfl⟩

theorem endPriming_inWindow {e : ListenEntry} {p : Seq} (hp : e.play = some p) (h : e.InWindow) (target : Nat) :
    (e.endPriming target).InWindow := by
  unfold endPriming
  split
  case isFalse => exact h
  case isTrue =>
    obtain ⟨hnodup, hplay⟩ := h
    rw [hp] at hplay
    refine ⟨hnodup, ?_⟩
    simp only [hp]
    exact ⟨nofun, hplay.2⟩

theorem serialDiff_self (q : Seq) : serialDiff q q = 0 := by simp [serialDiff]

theorem prime_inWindow (e : ListenEntry) (q : Seq) (b : Block) : (e.prime q b).InWindow := by
  refine ⟨List.nodup_singleton _, nofun, ?_⟩
  intro x hx
  rw [List.mem_singleton.1 hx]
  simp [serialDiff_self]

theorem holds_eq_false_iff {e : ListenEntry} {q : Seq} : e.holds q = false ↔ ∀ b ∈ e.buffer, b.seq ≠ q := by
  simp [holds]

theorem append_inWindow {e : ListenEntry} {p q : Seq} {b : Block} (h : e.InWindow) (hp : e.play = some p)
    (hlo : 0 ≤ serialDiff q p) (hhi : serialDiff q p ≤ 7) (hnew : e.holds q = false) :
    ({ e with buffer := e.buffer ++ [⟨q, b⟩] } : ListenEntry).InWindow := by
  obtain ⟨hnodup, hplay⟩ := h
  rw [hp] at hplay
  rw [holds_eq_false_iff] at hnew
  refine ⟨?_, ?_⟩
  · rw [List.map_append, List.nodup_append]
    exact ⟨hnodup, List.nodup_singleton _, by simpa using hnew⟩
  · simp only [hp]
    refine ⟨hplay.1, fun x hx => ?_⟩
    rcases List.mem_append.1 hx with hold | hlast
    · exact hplay.2 x hold
    · rw [List.mem_singleton.1 hlast]
      exact ⟨hlo, hhi⟩

/-- An arriving block leaves the buffer in its window (R148 to R151). -/
theorem arrive_inWindow {e : ListenEntry} (h : e.InWindow) (target : Nat) (q : Seq) (b : Block) :
    (e.arrive target q b).1.InWindow := by
  have hprimed : ∀ x : ListenEntry, ((x.prime q b).endPriming target).InWindow := fun x =>
    endPriming_inWindow rfl (x.prime_inWindow q b) target
  unfold arrive
  split
  case h_1 => exact hprimed e
  case h_2 => exact hprimed e
  case h_3 p _ hp _ =>
    dsimp only
    split
    · exact h
    · split
      · exact hprimed _
      · split
        · exact h
        · rename_i hlo hhi hnew
          have hstored := append_inWindow (q := q) (b := b) h hp (by omega) (by omega) (by simpa using hnew)
          exact endPriming_inWindow (e := { e with buffer := e.buffer ++ [⟨q, b⟩] }) hp hstored target

/-- Past the play sequence, one place later in the window is one place nearer (R151). -/
theorem serialDiff_succ {q p : Seq} (hlo : 0 ≤ serialDiff q p) (hhi : serialDiff q p ≤ 7) (hne : q ≠ p) :
    0 ≤ serialDiff q (p + 1) ∧ serialDiff q (p + 1) ≤ 7 := by
  have hsub : serialDiff q (p + 1) = (serialDiff q p - 1).bmod 65536 := by
    unfold serialDiff
    rw [sub_add_eq_sub_sub, BitVec.toInt_sub (x := q - p)]
    rfl
  have hpos : serialDiff q p ≠ 0 := fun h => hne (by
    have hzero : q - p = 0 := BitVec.eq_of_toInt_eq (by simpa [serialDiff] using h)
    simpa [BitVec.sub_eq_iff_eq_add] using hzero)
  rw [hsub]
  rw [Int.bmod_eq_of_le (by omega) (by omega)]
  omega

theorem missed_inWindow {e : ListenEntry} {p : Seq} (h : e.InWindow) (hp : e.play = some p)
    (habsent : ∀ b ∈ e.buffer, b.seq ≠ p) : (e.missed p).InWindow := by
  unfold missed
  dsimp only
  split
  · exact emptied_inWindow _
  · obtain ⟨hnodup, hplay⟩ := h
    rw [hp] at hplay
    exact ⟨hnodup, hplay.1, fun b hb => serialDiff_succ (hplay.2 b hb).1 (hplay.2 b hb).2 (habsent b hb)⟩

/-- A play leaves the buffer in its window, one sequence later (R151 to R154). -/
theorem playOne_inWindow {e : ListenEntry} (h : e.InWindow) : e.playOne.2.1.InWindow := by
  unfold playOne
  split
  case h_2 => exact h
  case h_1 p hstate hp =>
    split
    case h_1 =>
      obtain ⟨hnodup, hplay⟩ := h
      rw [hp] at hplay
      refine ⟨hnodup.sublist (List.filter_sublist.map _), hplay.1, fun x hx => ?_⟩
      obtain ⟨hmem, hne⟩ := List.mem_filter.1 hx
      exact serialDiff_succ (hplay.2 x hmem).1 (hplay.2 x hmem).2 (by simpa using hne)
    case h_2 hfound =>
      exact missed_inWindow h hp fun b hb heq => absurd heq (by simpa using List.find?_eq_none.1 hfound b hb)

/-- What a window speaks of: the state of play, the play sequence and the buffer. -/
theorem InWindow.congr {e x : ListenEntry} (h : e.InWindow) (hs : x.state = e.state) (hp : x.play = e.play)
    (hb : x.buffer = e.buffer) : x.InWindow := by
  unfold InWindow
  rw [hs, hp, hb]
  exact h

end ListenEntry

/-! ### The listen table -/

/-- An entry of the table replaced by one of its own state of play, play sequence and buffer. -/
theorem State.setListen_same_capStep (s : State) {k : Fin 32} {e x : ListenEntry} (he : s.listens[k] = some e)
    (hs : x.state = e.state) (hp : x.play = e.play) (hb : x.buffer = e.buffer) : s.CapStep (s.setListen k (some x)) :=
  s.setListen_capStep k _ fun h _ hmem =>
    Option.mem_some_iff.1 hmem ▸ ListenEntry.InWindow.congr (h k e he) hs hp hb

theorem State.setListen_none_capStep (s : State) (k : Fin 32) : s.CapStep (s.setListen k none) :=
  s.setListen_capStep k _ fun _ => nofun

theorem State.handJoin_capStep (s : State) (k : Fin 32) : s.CapStep (s.handJoin k) := by
  unfold State.handJoin
  split
  case h_1 => exact .refl s
  case h_2 e he =>
    refine .trans ?_ (State.hand_capStep _ _)
    exact s.setListen_same_capStep he rfl rfl rfl

theorem State.createListen_capStep (s : State) (r : Remote) (n : Nat) (c : Cls) : s.CapStep (s.createListen r n c) := by
  unfold State.createListen
  split
  case h_1 => exact .refl s
  case h_2 k _ =>
    have hmade := s.setListen_capStep k (some (ListenEntry.created r n c (!s.isPresent r.station)))
      fun _ e he => Option.mem_some_iff.1 he ▸ ListenEntry.created_inWindow _ _ _ _
    dsimp only
    split
    · exact hmade
    · exact hmade.trans (State.handJoin_capStep _ _)

theorem State.releaseListen_capStep (s : State) (k : Fin 32) : s.CapStep (s.releaseListen k) := by
  unfold State.releaseListen
  split
  · exact .refl s
  · exact (s.setListen_none_capStep k).trans (State.hand_capStep _ _)

theorem State.updateListen_capStep (s : State) (k : Fin 32) (n : Nat) (c : Cls) : s.CapStep (s.updateListen k n c) := by
  unfold State.updateListen
  split
  case h_1 => exact .refl s
  case h_2 e he =>
    have hkept := s.setListen_same_capStep (x := { e with refCount := n, cls := c }) he rfl rfl rfl
    dsimp only
    split
    · exact hkept
    · exact hkept.trans (State.handJoin_capStep _ _)

theorem State.absentListen_capStep (st : Station) (s : State) (k : Fin 32) : s.CapStep (State.absentListen st s k) := by
  unfold State.absentListen
  split
  case h_1 => exact .refl s
  case h_2 e he =>
    split
    · exact s.setListen_capStep k _ fun _ x hx => Option.mem_some_iff.1 hx ▸ e.emptied_inWindow.congr rfl rfl rfl
    · exact .refl s

theorem State.listenAbsence_capStep (s : State) (st : Station) : s.CapStep (s.listenAbsence st) :=
  foldl_capStep _ (State.absentListen_capStep st) _ s

theorem State.returnListen_capStep (st : Station) (s : State) (k : Fin 32) : s.CapStep (State.returnListen st s k) := by
  unfold State.returnListen
  split
  case h_1 => exact .refl s
  case h_2 e he =>
    split
    · refine .trans ?_ (State.handJoin_capStep _ _)
      exact s.setListen_same_capStep he rfl rfl rfl
    · exact .refl s

theorem State.listenReturn_capStep (s : State) (st : Station) : s.CapStep (s.listenReturn st) :=
  foldl_capStep _ (State.returnListen_capStep st) _ s

theorem State.takeBurst_capStep (s : State) (o : Station) (i : Fin 32) (q : Seq) (b : Block) :
    s.CapStep (s.takeBurst o i q b) := by
  unfold State.takeBurst
  split
  case isFalse => exact .refl s
  case isTrue =>
    split
    case h_1 => exact .refl s
    case h_2 k _ =>
      split
      case h_1 => exact .refl s
      case h_2 e he =>
        refine (s.setListen_capStep k _ fun h x hx => ?_).trans (State.count_capStep _ (Arrived.count_safe _))
        exact Option.mem_some_iff.1 hx ▸ ListenEntry.arrive_inWindow (h k e he) _ _ _

theorem State.withListens_capStep (s : State) (v : Vector (Option ListenEntry) 32)
    (hv : s.BuffersInWindow → ∀ k : Fin 32, ∀ e ∈ v[k], e.InWindow) : s.CapStep { s with listens := v } where
  windows := hv

/-- How many entries miss their block at this pass start (R154, R157). -/
def State.misses (s : State) : Nat :=
  (List.finRange 32).countP fun k => (s.listens[k].map fun e => e.playOne.2.2) == some true

theorem State.playAll_eq (s : State) : s.playAll =
    ({ s with listens := Vector.ofFn fun k => s.listens[k].map fun e => e.playOne.2.1 } : State).count
      (Nat.repeat Counters.incConceal s.misses) := rfl

theorem State.playAll_capStep (s : State) : s.CapStep s.playAll := by
  have hplayed := s.withListens_capStep (Vector.ofFn fun k => s.listens[k].map fun e => e.playOne.2.1) fun h k e he => by
    rw [Fin.getElem_fin, Vector.getElem_ofFn] at he
    obtain ⟨x, hx, rfl⟩ := Option.mem_map.1 he
    exact ListenEntry.playOne_inWindow (h k x hx)
  have hincConceal : Counters.Safe Counters.incConceal := Counters.increments_safe _ (by simp [Counters.increments])
  rw [State.playAll_eq]
  exact hplayed.trans (State.count_capStep _ (hincConceal.repeat s.misses))

/-! ### The route table -/

theorem State.tellRelease_capStep (s : State) (r : Remote) : s.CapStep (s.tellRelease r) := by
  unfold State.tellRelease
  split
  · split
    · exact s.releaseListen_capStep _
    · exact .refl s
  · exact .refl s

theorem State.tellCreate_capStep (s : State) (r : Remote) : s.CapStep (s.tellCreate r) := by
  unfold State.tellCreate
  split
  · exact s.createListen_capStep _ _ _
  · exact .refl s

theorem State.tellUpdate_capStep (s : State) (r : Remote) : s.CapStep (s.tellUpdate r) := by
  unfold State.tellUpdate
  split
  · exact s.updateListen_capStep _ _ _
  · exact .refl s

theorem State.tellListens_capStep (s : State) (rs : List Remote) : s.CapStep (s.tellListens rs) :=
  ((foldl_capStep _ State.tellRelease_capStep rs s).trans (foldl_capStep _ State.tellCreate_capStep rs _)).trans
    (foldl_capStep _ State.tellUpdate_capStep rs _)

/-- A mix's entries are replaced within the space of the table, and the listen table is told. -/
theorem State.setRoutes_tell_capStep (s : State) (m : Mix) (l : List Route) (rs : List Remote)
    (hl : l.length ≤ s.routes[m].length ∨ tableSize s.routes < 192 ∧ l.length ≤ s.routes[m].length + 1) :
    s.CapStep ((s.setRoutes m l).tellListens rs) :=
  (s.setRoutes_capStep m l fun _ => hl).trans (State.tellListens_capStep _ _)

@[simp] theorem changeRoute_length (l : List Route) (i : Input) (f : Route → Route) :
    (changeRoute l i f).length = l.length := List.length_map ..

theorem dropHolder_length_le (cfg : StationConfig) (left : List Cls) (l : List Route) (i : Input) :
    (dropHolder cfg left l i).length ≤ l.length := List.length_filterMap_le ..

theorem addHolder_of_hasRoute {l : List Route} {i : Input} (h : hasRoute l i = true) (cfg : StationConfig) (cs : List Cls) :
    addHolder cfg cs l i =
      changeRoute l i fun r => ({ r with holders := r.holders + 1 } : Route).recompute cfg cs := by
  rw [addHolder, if_pos h]

theorem addHolder_of_not_hasRoute {l : List Route} {i : Input} (h : hasRoute l i = false) (cfg : StationConfig)
    (cs : List Cls) : addHolder cfg cs l i = l ++ [(⟨i, 0, 1, 0, 3⟩ : Route).recompute cfg cs] := by
  rw [addHolder, if_neg (by simp [h])]

/-- The three space tests (R8, R12). -/
theorem State.spaceTest_eq_none_iff (s : State) (m : Mix) (i : Input) (freed : Nat) :
    s.spaceTest m i freed = none ↔ tableSize s.routes < 192 ∧ s.routes[m].length < 12 ∧
      ∀ r, i = .remote r → s.findListen r ≠ none ∨ s.listenCount < 32 + freed := by
  unfold State.spaceTest
  have hmix := Nat.lt_or_ge s.routes[m].length 12
  by_cases hsize : tableSize s.routes < 192
  · rw [if_neg (show ¬ Config.maxRoutes ≤ _ from Nat.not_le.2 hsize)]
    rcases hmix with hmix | hmix
    · rw [if_neg (show ¬ Config.maxRoutesPerMix ≤ _ from Nat.not_le.2 hmix)]
      cases i with
      | loc | field => simp only [hsize, hmix, reduceCtorEq, false_implies, implies_true, and_self]
      | remote r =>
        simp only [hsize, hmix, true_and, Input.remote.injEq, forall_eq', ne_eq]
        by_cases hfull : s.findListen r = none ∧ Config.maxListens + freed ≤ s.listenCount
        · rw [if_pos hfull]
          simp only [reduceCtorEq, hfull.1, not_true, false_or, show ¬ s.listenCount < 32 + freed from Nat.not_lt.2 hfull.2]
        · rw [if_neg hfull, eq_self, true_iff]
          rwa [not_and_or, Nat.not_le] at hfull
    · rw [if_pos (show Config.maxRoutesPerMix ≤ _ from hmix)]
      simp only [Nat.not_lt.2 hmix, reduceCtorEq, false_and, and_false]
  · rw [if_pos (show Config.maxRoutes ≤ _ from Nat.not_lt.1 hsize)]
    simp only [hsize, reduceCtorEq, false_and]

theorem State.canHold_iff (s : State) (m : Mix) (i : Input) (freed : Nat) : s.canHold m i freed = true ↔
    loops m i = false ∧ (hasRoute s.routes[m] i = true ∨ s.spaceTest m i freed = none) := by
  simp [State.canHold]

/-- A hold that may be made has space for the entry it may create (R8, R10). -/
theorem State.addHolder_fits {s : State} {m : Mix} {i : Input} {freed : Nat} (h : s.canHold m i freed = true)
    (cfg : StationConfig) (cs : List Cls) : (addHolder cfg cs s.routes[m] i).length ≤ s.routes[m].length ∨
      tableSize s.routes < 192 ∧ (addHolder cfg cs s.routes[m] i).length ≤ s.routes[m].length + 1 := by
  obtain ⟨-, hspace⟩ := (s.canHold_iff m i freed).1 h
  cases hr : hasRoute s.routes[m] i with
  | true => exact .inl (by rw [addHolder_of_hasRoute hr, changeRoute_length])
  | false =>
    have hnone : s.spaceTest m i freed = none := hspace.resolve_left (by rw [hr]; nofun)
    exact .inr ⟨((s.spaceTest_eq_none_iff m i freed).1 hnone).1, by rw [addHolder_of_not_hasRoute hr, List.length_append]; rfl⟩

theorem State.hold_capStep {s t : State} {m : Mix} {a : SourceAddr} {c : Cls} (h : s.hold m a c = some t) :
    s.CapStep t := by
  unfold State.hold at h
  split at h
  case h_1 => cases h
  case h_2 =>
    split at h
    case isFalse => cases h
    case isTrue hc =>
      cases h
      exact s.setRoutes_tell_capStep m _ _ (State.addHolder_fits hc _ _)

theorem State.release_capStep (s : State) (m : Mix) (a : SourceAddr) : s.CapStep (s.release m a) := by
  unfold State.release
  split
  · exact .refl s
  · exact s.setRoutes_tell_capStep m _ _ (.inl (dropHolder_length_le ..))

theorem State.exchange_capStep {s t : State} {m : Mix} {v : InTalk} {rest : List InTalk} {a : SourceAddr} {c : Cls}
    (h : s.exchange m v rest a c = some t) : s.CapStep t := by
  unfold State.exchange at h
  split at h
  case h_2 => cases h
  case h_1 =>
    dsimp only at h
    split at h
    · cases h
      exact s.setRoutes_tell_capStep m _ _ (.inl (changeRoute_length ..).le)
    · split at h
      case isFalse => cases h
      case isTrue hc =>
        cases h
        exact (s.setRoutes_capStep m _ fun _ => .inl (dropHolder_length_le ..)).trans
          (State.setRoutes_tell_capStep _ m _ _ (State.addHolder_fits hc _ _))

theorem State.routeSet_capStep (s : State) (r : RouteArgs) : s.CapStep (s.routeSet r) :=
  s.setRoutes_tell_capStep _ _ _ (.inl (changeRoute_length ..).le)

theorem State.routeClear_capStep (s : State) (r : RouteArgs) : s.CapStep (s.routeClear r) :=
  s.setRoutes_tell_capStep _ _ _ (.inl (List.length_filterMap_le ..))

theorem State.routeCreate_capStep (s : State) (r : RouteArgs) (h : s.spaceTest r.mix r.input 0 = none) :
    s.CapStep (s.routeCreate r) :=
  s.setRoutes_tell_capStep _ _ _ (.inr ⟨((s.spaceTest_eq_none_iff _ _ _).1 h).1, by simp⟩)

theorem State.routeCommand_capStep (s : State) (r : RouteArgs) : s.CapStep (s.routeCommand r) := by
  unfold State.routeCommand
  split
  · split
    · exact (s.routeClear_capStep r).trans (State.respond_capStep _ _ _ _ _)
    · exact (s.routeSet_capStep r).trans (State.respond_capStep _ _ _ _ _)
  · split
    · exact s.respond_capStep _ _ _ _
    · split
      · exact s.respond_capStep _ _ _ _
      case h_2 hspace => exact (s.routeCreate_capStep r hspace).trans (State.respond_capStep _ _ _ _ _)

end Sys2Proof.Machine

/-!
SUPPORT. The operations of the talker's replies, of the arbiter and of the talker keep every capacity: a slot is filled
from the wait list, a pre-empted record waits in its new record's stead, and a new record comes only below 48 (R48 to
R62, R70 to R80).
-/

namespace Sys2Proof.Machine

/-! ### Replies -/

theorem State.putSummed_capStep (s : State) (n : TalkNo) (b : Summary) (x : OutTalk)
    (hx : s.RepliesWithin → x.replies.length ≤ 8) : s.CapStep (s.putSummed n b x) := by
  have hplaced : s.CapStep (s.setOut n (some x.summed)) :=
    s.setOut_capStep n _ fun h t ht => Option.mem_some_iff.1 ht ▸ hx h
  unfold State.putSummed
  dsimp only
  split
  · exact hplaced
  · exact hplaced.trans (State.emit_capStep _ _)

/-- The reply list stays within its eight entries (R69, R78). -/
theorem OutTalk.addReply_length_le {x : OutTalk} (h : x.replies.length ≤ 8) (r : Reply) :
    (x.addReply r).replies.length ≤ 8 := by
  unfold OutTalk.addReply
  split
  · simpa using h
  · split
    case isTrue hlt => simpa [Config.maxReplies] using hlt
    case isFalse => exact h

theorem State.takeReply_capStep (s : State) (n : TalkNo) (r : Reply) : s.CapStep (s.takeReply n r) := by
  have hignored : s.CapStep (s.count Counters.incTalkerIgnored) :=
    s.count_increment_capStep (by simp [Counters.increments])
  unfold State.takeReply
  split
  case h_1 => exact hignored
  case h_2 x hx =>
    split
    · exact s.putSummed_capStep _ _ _ fun h => OutTalk.addReply_length_le (h n x hx) r
    · exact hignored

theorem State.dropReplies_capStep (st : Station) (s : State) (n : TalkNo) : s.CapStep (State.dropReplies st s n) := by
  unfold State.dropReplies
  split
  case h_1 => exact .refl s
  case h_2 x hx => exact s.putSummed_capStep _ _ _ fun h => (List.length_filter_le _ _).trans (h n x hx)

theorem State.talkerAbsence_capStep (s : State) (st : Station) : s.CapStep (s.talkerAbsence st) :=
  foldl_capStep _ (State.dropReplies_capStep st) _ s

theorem State.answer_capStep (s : State) (o : Station) (n : TalkNo) (m : Fin 32) (a : TalkAnswer) (r : Reason) :
    s.CapStep (s.answer o n m a r) := by
  unfold State.answer
  split
  · exact s.takeReply_capStep _ _
  · exact s.hand_capStep _

theorem State.answerFor_capStep (s : State) (m : Mix) (x : InTalk) (a : TalkAnswer) (r : Reason) :
    s.CapStep (s.answerFor m x a r) := s.answer_capStep _ _ _ _ _

theorem State.incoming_capStep (s : State) (m : Mix) (x : InTalk) (g : Bool) (c : Cause) :
    s.CapStep (s.incoming m x g c) := s.emit_capStep _

/-! ### The size of the talk table -/

/-- The talk table is below its 48 records (R48, R52). -/
structure State.HasRoom (s : State) : Prop where
  below : s.talkCount < 48

theorem State.talkCount_congr {s t : State} (h : t.talks = s.talks) : t.talkCount = s.talkCount := by
  simp only [State.talkCount, h]

/-- A mix's lists replaced twice are the lists of the second time. -/
theorem State.talks_setTalks_of_eq {s t : State} {m : Mix} {y : MixTalks} (h : t.talks = s.talks.set m y) (x : MixTalks) :
    (t.setTalks m x).talks = (s.setTalks m x).talks := by
  rw [State.setTalks_talks, State.setTalks_talks, h, Vector.set_set]

/-- A step followed by lists for one mix, `x` against the lists of `s` there. -/
theorem State.CapStep.thenTalks {s t : State} (h : s.CapStep t) {m : Mix} {y : MixTalks} (x : MixTalks)
    (ht : t.talks = s.talks.set m y)
    (hx : s.TalksWithin → x.size ≤ s.talks[m].size ∨ s.HasRoom ∧ x.size ≤ s.talks[m].size + 1) :
    s.CapStep (t.setTalks m x) where
  events := h.events
  queues := h.queues
  quiet := h.quiet
  buffer := h.buffer
  portBuffers := h.portBuffers
  counters := h.counters
  gains := h.gains
  windows := h.windows
  routes := h.routes
  talks hs := by
    rw [State.talksWithin_iff, State.talkCount_congr (State.talks_setTalks_of_eq ht x)]
    exact (s.setTalks_capStep m x fun h => (hx h).imp_right (.imp_left HasRoom.below)).talks hs
  replies := h.replies

theorem State.talks_eq_set_self (s : State) (m : Mix) : s.talks = s.talks.set m s.talks[m] :=
  (Vector.set_getElem_self m.isLt).symm

/-- A mix's two lists are replaced by lists that hold no more records. -/
theorem State.setTalks_le_capStep (s : State) (m : Mix) (x : MixTalks) (hx : x.size ≤ s.talks[m].size) :
    s.CapStep (s.setTalks m x) := s.setTalks_capStep m x fun _ => .inl hx

/-! ### The arbiter -/

/-- Filling from the wait list keeps the capacities: each record leaves the wait list for a slot or for good (R58). -/
theorem State.fillFrom_capStep (m : Mix) (ws : List InTalk) :
    ∀ s : State, s.talks[m].waiting = ws → s.CapStep (State.fillFrom m ws s) := by
  induction ws with
  | nil => exact fun s _ => .refl s
  | cons w ws ih =>
    intro s hws
    have hwaiting := s.setTalks_le_capStep m ⟨s.talks[m].granted, ws⟩ 
      (by rw [MixTalks.size, MixTalks.size, hws]; simp)
    unfold State.fillFrom
    split
    case isFalse => exact .refl s
    case isTrue =>
      dsimp only
      split
      case h_1 held hheld =>
        obtain ⟨-, htalks, -⟩ := State.hold_spec hheld
        have hmix : held.talks[m] = ⟨s.talks[m].granted, ws⟩ := by rw [htalks]; exact vector_set_getElem_self ..
        refine .trans ?_ (ih _ ?_)
        · refine .trans (.trans ?_ (State.answerFor_capStep _ _ _ _ _)) (State.incoming_capStep _ _ _ _ _)
          refine (hwaiting.trans (State.hold_capStep hheld)).thenTalks _ htalks fun _ => .inl ?_
          rw [hmix]
          simp only [MixTalks.size, hws, List.length_append, List.length_cons, List.length_nil]
          omega
        · rw [State.incoming, State.emit_talks, State.answerFor, (State.answer_tables _ _ _ _ _ _).2, State.setTalks_talks,
            vector_set_getElem_self, hmix]
      case h_2 =>
        refine .trans (.trans hwaiting (State.answerFor_capStep _ _ _ _ _)) (ih _ ?_)
        rw [State.answerFor, (State.answer_tables _ _ _ _ _ _).2, State.setTalks_talks, vector_set_getElem_self]

theorem State.fill_capStep (s : State) (m : Mix) : s.CapStep (s.fill m) := State.fillFrom_capStep m _ s rfl

theorem State.dropGranted_capStep (s : State) (m : Mix) (x : InTalk) (c : Cause) : s.CapStep (s.dropGranted m x c) := by
  have hleft := s.setTalks_le_capStep m ⟨s.talks[m].granted.erase x, s.talks[m].waiting⟩
    (Nat.add_le_add_right (List.length_erase_le ..) _)
  exact (hleft.trans (State.release_capStep _ _ _)).trans (State.incoming_capStep _ _ _ _ _)

theorem State.dropWaiting_capStep (s : State) (m : Mix) (x : InTalk) : s.CapStep (s.dropWaiting m x) :=
  s.setTalks_le_capStep m _ (Nat.add_le_add_left (List.length_erase_le ..) _)

theorem State.grantTalk_capStep (s : State) (m : Mix) (q : TalkRequest) (h : s.HasRoom) : s.CapStep (s.grantTalk m q) := by
  unfold State.grantTalk
  split
  case h_2 => exact s.answer_capStep _ _ _ _ _
  case h_1 held hheld =>
    obtain ⟨-, htalks, -⟩ := State.hold_spec hheld
    refine .trans (.trans ?_ (State.answerFor_capStep _ _ _ _ _)) (State.incoming_capStep _ _ _ _ _)
    refine (State.hold_capStep hheld).thenTalks _ (htalks.trans (s.talks_eq_set_self m)) fun _ => .inr ⟨h, ?_⟩
    rw [htalks]
    simp only [MixTalks.size, List.length_append, List.length_cons, List.length_nil]
    omega

theorem enqueue_length (ws : List InTalk) (x : InTalk) : (enqueue ws x).length = ws.length + 1 := by
  conv_rhs => rw [← List.takeWhile_append_dropWhile (p := fun w => decide (w.cls ≤ x.cls)) (l := ws)]
  rw [List.length_append, Nat.add_assoc]
  exact List.length_append

theorem enqueuePreempted_length (ws : List InTalk) (x : InTalk) : (enqueuePreempted ws x).length = ws.length + 1 := by
  conv_rhs => rw [← List.takeWhile_append_dropWhile (p := fun w => decide (w.cls < x.cls)) (l := ws)]
  rw [List.length_append, Nat.add_assoc]
  exact List.length_append

theorem State.preempt_capStep (s : State) (m : Mix) (q : TalkRequest) {v : InTalk} (h : s.HasRoom)
    (hv : v ∈ s.talks[m].granted) : s.CapStep (s.preempt m q v) := by
  unfold State.preempt
  dsimp only
  split
  case h_2 => exact s.answer_capStep _ _ _ _ _
  case h_1 held hheld =>
    obtain ⟨-, htalks, -⟩ := State.exchange_spec hheld
    refine .trans (.trans (.trans (.trans ?_ (State.answerFor_capStep _ _ _ _ _)) (State.answerFor_capStep _ _ _ _ _))
      (State.incoming_capStep _ _ _ _ _)) (State.incoming_capStep _ _ _ _ _)
    refine (State.exchange_capStep hheld).thenTalks _ (htalks.trans (s.talks_eq_set_self m)) fun _ => .inr ⟨h, ?_⟩
    have hpos := List.length_pos_of_mem hv
    rw [htalks]
    simp only [MixTalks.size, List.length_append, List.length_cons, List.length_nil, List.length_erase_of_mem hv,
      enqueuePreempted_length]
    omega

theorem State.waitTalk_capStep (s : State) (m : Mix) (q : TalkRequest) (h : s.HasRoom) : s.CapStep (s.waitTalk m q) := by
  refine .trans (s.setTalks_capStep m _ fun _ => .inr ⟨h.below, ?_⟩) (State.answerFor_capStep _ _ _ _ _)
  simp only [MixTalks.size, enqueue_length]
  omega

/-- The victim is one of the GRANTED records (R54). -/
theorem victimOf_mem {granted : List InTalk} {v : InTalk} (h : victimOf granted = some v) : v ∈ granted := by
  have hfold : ∀ (l : List InTalk) (o : Option InTalk) (v : InTalk),
      l.foldl (fun v t => match v with
        | none => some t
        | some w => if w.cls ≤ t.cls then some t else some w) o = some v → v ∈ l ∨ o = some v := by
    intro l
    induction l with
    | nil => exact fun o v h => .inr h
    | cons t l ih =>
      intro o v h
      rcases ih _ v h with hl | ho
      · exact .inl (List.mem_cons_of_mem _ hl)
      · cases o with
        | none => exact .inl (Option.some.inj ho ▸ List.mem_cons_self)
        | some w =>
          dsimp only at ho
          split at ho
          · exact .inl (Option.some.inj ho ▸ List.mem_cons_self)
          · exact .inr ho
  exact (hfold granted none v h).resolve_right nofun

/-- The mix is the return mix of a port outside the admitted states (R52 test 1). -/
def State.talkDown (s : State) (m : Mix) : Bool :=
  match portOf m with
  | some k => !s.ports[k].state.admitted
  | none => false

/-- The source is the field source of the mix's own port (R52 test 2). -/
def State.talkLoops (s : State) (m : Mix) (a : SourceAddr) : Bool :=
  match s.input a with
  | some i => loops m i
  | none => false

theorem State.talkTest_eq (s : State) (m : Mix) (q : TalkRequest) : s.talkTest m q =
    if s.talkDown m then some .destDown
    else if s.talkLoops m q.source then some .loop
    else if some q.talker ≠ s.cfg.number ∧ ¬ s.isPresent q.talker then some .talkerGone
    else if 48 ≤ s.talkCount then some .noRoom
    else none := rfl

/-- A talk that passes the four tests goes to no port outside the admitted states and finds room in the table (R52). -/
theorem State.of_talkTest_eq_none {s : State} {m : Mix} {q : TalkRequest} (h : s.talkTest m q = none) :
    s.talkDown m = false ∧ s.HasRoom := by
  rw [State.talkTest_eq] at h
  split at h
  case isTrue => cases h
  case isFalse hdown =>
    refine ⟨by simpa using hdown, ⟨?_⟩⟩
    split at h
    · cases h
    · split at h
      · cases h
      · split at h
        · cases h
        · exact Nat.lt_of_not_le ‹_›

theorem State.newTalk_capStep (s : State) (m : Mix) (q : TalkRequest) : s.CapStep (s.newTalk m q) := by
  unfold State.newTalk
  split
  case h_1 => exact s.answer_capStep _ _ _ _ _
  case h_2 htest =>
    obtain ⟨-, hroom⟩ := State.of_talkTest_eq_none htest
    split
    · exact s.grantTalk_capStep m q hroom
    · split
      case h_1 v hv =>
        split
        · exact s.preempt_capStep m q hroom (victimOf_mem hv)
        · exact s.waitTalk_capStep m q hroom
      case h_2 => exact s.waitTalk_capStep m q hroom

theorem State.endRecord_capStep (s : State) (m : Mix) (o : Station) (n : TalkNo) : s.CapStep (s.endRecord m o n) := by
  unfold State.endRecord
  split
  · exact (s.dropGranted_capStep _ _ _).trans (State.fill_capStep _ _)
  · split
    · exact s.dropWaiting_capStep _ _
    · exact .refl s

theorem State.takeTalkMix_capStep (q : TalkRequest) (s : State) (m : Mix) : s.CapStep (State.takeTalkMix q s m) := by
  have hrefreshed := s.setTalks_le_capStep m
    ⟨refreshIn s.talks[m].granted q s.clock.now, refreshIn s.talks[m].waiting q s.clock.now⟩
    (by simp [MixTalks.size, refreshIn])
  have hanew := (s.endRecord_capStep m q.talker q.number).trans (State.newTalk_capStep _ m q)
  unfold State.takeTalkMix
  dsimp only
  split
  · split
    · exact hrefreshed.trans (State.answer_capStep _ _ _ _ _ _)
    · exact hanew
  · split
    · split
      · exact hrefreshed.trans (State.answer_capStep _ _ _ _ _ _)
      · exact hanew
    · exact s.newTalk_capStep _ _

theorem State.takeTalk_capStep (s : State) (all : Bool) (q : TalkRequest) (k : TargetKind) (v : Fin 32) :
    s.CapStep (s.takeTalk all q k v) := by
  have hignored : s.CapStep (s.count Counters.incArbiterIgnored) :=
    s.count_increment_capStep (by simp [Counters.increments])
  unfold State.takeTalk
  split
  · split
    · exact hignored
    · split
      · exact State.takeTalkMix_capStep _ _ _
      · exact s.answer_capStep _ _ _ _ _
  · split
    · exact foldl_capStep _ (State.takeTalkMix_capStep q) _ s
    · split
      · exact hignored
      · exact s.answer_capStep _ _ _ _ _

theorem State.takeTalkEnd_capStep (s : State) (o : Station) (n : TalkNo) : s.CapStep (s.takeTalkEnd o n) :=
  foldl_capStep _ (fun s m => s.endRecord_capStep m o n) _ s

theorem State.lapse_capStep (s : State) (m : Mix) (x : InTalk) (g : Bool) : s.CapStep (s.lapse m x g) := by
  unfold State.lapse
  split
  · exact ((s.dropGranted_capStep _ _ _).trans (State.answerFor_capStep _ _ _ _ _)).trans (State.fill_capStep _ _)
  · exact (s.dropWaiting_capStep _ _).trans (State.answerFor_capStep _ _ _ _ _)

theorem State.removeWaiting_capStep (m : Mix) (r : Reason) (s : State) (x : InTalk) :
    s.CapStep (State.removeWaiting m r s x) := (s.dropWaiting_capStep _ _).trans (State.answerFor_capStep _ _ _ _ _)

theorem State.removeGranted_capStep (m : Mix) (r : Reason) (c : Cause) (s : State) (x : InTalk) :
    s.CapStep (State.removeGranted m r c s x) :=
  (s.dropGranted_capStep _ _ _).trans (State.answerFor_capStep _ _ _ _ _)

theorem State.removeTalker_capStep (st : Station) (s : State) (m : Mix) : s.CapStep (State.removeTalker st s m) :=
  (foldl_capStep _ (State.removeWaiting_capStep m _) _ s).trans (foldl_capStep _ (State.removeGranted_capStep m _ _) _ _)

theorem State.arbiterAbsence_capStep (s : State) (st : Station) : s.CapStep (s.arbiterAbsence st) :=
  (foldl_capStep _ (State.removeTalker_capStep st) _ s).trans (foldl_capStep _ State.fill_capStep _ _)

theorem State.clearReturnMix_capStep (s : State) (k : PortNo) : s.CapStep (s.clearReturnMix k) :=
  (foldl_capStep _ (State.removeWaiting_capStep _ _) _ s).trans (foldl_capStep _ (State.removeGranted_capStep _ _ _) _ _)

/-! ### The talker -/

theorem State.toRing_capStep (s : State) (st : Station) (b : NoteBody) : s.CapStep (s.toRing st b) := by
  unfold State.toRing
  split
  · exact .refl s
  · exact s.hand_capStep _

theorem State.sendTalk_capStep (s : State) (n : TalkNo) (x : OutTalk) : s.CapStep (s.sendTalk n x) := by
  unfold State.sendTalk
  dsimp only
  split
  · exact (s.takeTalk_capStep _ _ _ _).trans (State.toRing_capStep _ _ _)
  · exact s.toRing_capStep _ _

theorem State.sendTalkEnd_capStep (s : State) (n : TalkNo) (x : OutTalk) : s.CapStep (s.sendTalkEnd n x) := by
  unfold State.sendTalkEnd
  dsimp only
  split
  · exact (s.takeTalkEnd_capStep _ _).trans (State.toRing_capStep _ _ _)
  · exact s.toRing_capStep _ _

theorem State.createTalk_capStep (s : State) (n : TalkNo) (x : OutTalk) (hx : x.replies.length ≤ 8) :
    s.CapStep (s.createTalk n x) :=
  ((s.setOut_capStep n _ fun _ _ ht => Option.mem_some_iff.1 ht ▸ hx).trans (State.emit_capStep _ _)).trans
    (State.sendTalk_capStep _ _ _)

theorem State.releaseTalk_capStep (s : State) (n : TalkNo) : s.CapStep (s.releaseTalk n) := by
  unfold State.releaseTalk
  split
  · exact .refl s
  · exact ((s.sendTalkEnd_capStep _ _).trans (State.emit_capStep _ _)).trans (State.setOut_capStep _ _ _ fun _ => nofun)

theorem State.releasePortTalk_capStep (s : State) (k : PortNo) : s.CapStep (s.releasePortTalk k) := by
  unfold State.releasePortTalk
  split
  · exact s.releaseTalk_capStep _
  · exact .refl s

theorem State.portTalkOn_capStep (s : State) (k : PortNo) : s.CapStep (s.portTalkOn k) := by
  have hignored : s.CapStep (s.count Counters.incTalkerIgnored) :=
    s.count_increment_capStep (by simp [Counters.increments])
  unfold State.portTalkOn
  split
  · split
    · exact hignored
    · split
      · exact hignored
      · exact s.createTalk_capStep _ _ (Nat.zero_le _)
  · exact .refl s

end Sys2Proof.Machine

/-!
SUPPORT. The operations of the field ports, the send table, the roster, the scheduler, the ring interface, the mixes and
the control port keep every capacity; then so does every command and every step.
-/

namespace Sys2Proof.Machine

/-! ### Field ports -/

theorem State.fieldEvent_capStep (s : State) (k : PortNo) (b : PortState) (p : Port) (f : PortFault) :
    s.CapStep (s.fieldEvent k b p f) := s.emit_capStep _

theorem State.movePort_capStep (s : State) (k : PortNo) (p : Port) (f : PortFault)
    (hp : s.PortBuffersBounded → p.Within) : s.CapStep (s.movePort k p f) :=
  (s.setPort_capStep k p hp).trans (State.fieldEvent_capStep _ _ _ _ _)

/-- What a port's buffers are within stays so while they stay. -/
theorem Port.Within.congr {p q : Port} (h : p.Within) (he : q.elastic = p.elastic) (ho : q.outbound = p.outbound) :
    q.Within := by
  unfold Port.Within
  rw [he, ho]
  exact h

theorem Port.faulted_within {p : Port} (h : p.Within) (f : PortFault) : (p.faulted f).Within := by
  unfold Port.faulted
  split
  · exact h
  · exact h

theorem Port.idled_within (p : Port) (f : PortFault) : (p.idled f).Within :=
  Port.faulted_within ⟨Nat.zero_le _, Nat.zero_le _⟩ f

theorem Port.settle_within {p : Port} (h : p.Within) : p.settle.Within := ⟨Nat.zero_le _, h.2⟩

theorem State.toIdle_capStep (s : State) (k : PortNo) (p : Port) (f : PortFault) : s.CapStep (s.toIdle k p f) := by
  unfold State.toIdle
  dsimp only
  split
  · refine .trans ?_ (State.setPort_capStep _ k _ fun _ => p.idled_within f)
    exact ((s.fieldEvent_capStep _ _ _ _).trans (State.clearReturnMix_capStep _ _)).trans
      (State.releasePortTalk_capStep _ _)
  · exact s.movePort_capStep k _ f fun _ => p.idled_within f

theorem State.completeTraining_capStep (s : State) (k : PortNo) (p : Port) (hp : s.PortBuffersBounded → p.Within) :
    s.CapStep (s.completeTraining k p) := by
  unfold State.completeTraining
  split
  · exact s.toIdle_capStep _ _ _
  · dsimp only
    split
    · exact s.movePort_capStep _ _ _ fun h => Port.settle_within (hp h)
    · split
      · exact s.movePort_capStep _ _ _ fun h => Port.settle_within (p := { p.trainedTo _ with idResult := _, failures := _ }) (hp h)
      · exact s.movePort_capStep _ _ _ hp

theorem State.startTraining_capStep (s : State) (k : PortNo) (p : Port) (st : PortState)
    (hp : s.PortBuffersBounded → p.Within) : s.CapStep (s.startTraining k p st) := s.movePort_capStep _ _ _ hp

theorem State.nextStamp_capStep (s : State) (k : PortNo) (p : Port) (hp : s.PortBuffersBounded → p.Within) :
    s.CapStep (s.nextStamp k p) := by
  unfold State.nextStamp
  dsimp only
  split
  · exact s.completeTraining_capStep k _ hp
  · exact s.setPort_capStep k _ hp

theorem State.compareCode_capStep (s : State) (k : PortNo) (p : Port) (hp : s.PortBuffersBounded → p.Within) :
    s.CapStep (s.compareCode k p) := by
  unfold State.compareCode
  split
  · exact s.movePort_capStep _ _ _ fun h => Port.settle_within (p := { p with idResult := _, failures := _ }) (hp h)
  · split
    · exact s.toIdle_capStep _ _ _
    · refine s.movePort_capStep _ _ _ fun h => Port.faulted_within ?_ _
      exact hp h

theorem State.takeCode_capStep (s : State) (k : PortNo) (p : Port) (x : Sample) (hp : s.PortBuffersBounded → p.Within) :
    s.CapStep (s.takeCode k p x) := by
  unfold State.takeCode
  dsimp only
  split
  · exact s.compareCode_capStep k _ hp
  · exact s.setPort_capStep k _ hp

theorem State.takeSample_capStep (s : State) (k : PortNo) (p : Port) (x : Sample) (hp : s.PortBuffersBounded → p.Within) :
    s.CapStep (s.takeSample k p x) := by
  unfold State.takeSample
  split
  case isTrue hlen => exact s.setPort_capStep k _ fun h => ⟨by simpa [Config.maxElastic] using hlen, (hp h).2⟩
  case isFalse => exact s.count_increment_capStep (by simp [Counters.increments])

/-- A word keeps the capacities if what it does to a port that has heard it does. -/
theorem State.takeWord_capStep (s : State) (k : PortNo) (own : State → Port → State)
    (hown : ∀ (u : State) (p : Port), (u.PortBuffersBounded → p.Within) → u.CapStep (own u p)) :
    s.CapStep (s.takeWord k own) := by
  unfold State.takeWord
  dsimp only
  split
  · exact .refl s
  · refine .trans (s.setPort_capStep k _ ?_) (hown _ _ fun h => ?_)
    · exact fun h => h k
    · have hk := h k
      rwa [State.setPort_ports, vector_set_getElem_self] at hk

theorem State.portCompletion_capStep (s : State) (k : PortNo) : s.CapStep (s.portCompletion k) := by
  unfold State.portCompletion
  dsimp only
  split
  · split
    · exact s.movePort_capStep _ _ _ fun h => h k
    · exact s.setPort_capStep _ _ fun h => h k
  · refine s.setPort_capStep _ _ fun h => ?_
    unfold Port.driftChecked
    split
    · exact h k
    · exact h k
  · exact .refl s

theorem Port.produce_within {p : Port} (h : p.Within) (y : Sample) : (p.produce y).Within := by
  unfold Port.produce
  dsimp only
  split
  · exact h
  · exact h

theorem Port.convertIn_within {p : Port} (h : p.Within) (x y : Sample) : (p.convertIn x y).Within :=
  ⟨(List.drop_sublist _ _).length_le.trans h.1, (p.produce_within h _).2⟩

theorem Port.convertOut_within {p : Port} (h : p.Within) (x y : Sample) : (p.convertOut x y).Within :=
  ⟨h.1, (List.drop_sublist _ _).length_le.trans h.2⟩

theorem State.deliverReturn_capStep (s : State) (k : PortNo) (b : Block) : s.CapStep (s.deliverReturn k b) := by
  have hplaced := s.setPort_capStep k
    { s.ports[k] with outbound := s.ports[k].outbound.drop (s.ports[k].outbound.length - 48) ++ b.toList } fun h => by
      refine ⟨(h k).1, ?_⟩
      simp only [List.length_append, List.length_drop, Vector.length_toList]
      omega
  unfold State.deliverReturn
  dsimp only
  split
  · split
    · exact hplaced.trans (State.count_increment_capStep _ (by simp [Counters.increments]))
    · exact hplaced
  · exact .refl s

/-! ### Send table and roster -/

theorem State.setSend_capStep (s : State) (n : SourceNo) (l : List Subscriber) : s.CapStep (s.setSend n l) := {}

theorem State.takeJoin_capStep (s : State) (st : Station) (i : Fin 32) (c : Cls) : s.CapStep (s.takeJoin st i c) := by
  unfold State.takeJoin
  split
  · split
    · exact s.setSend_capStep _ _
    · exact .refl s
  · exact s.count_increment_capStep (by simp [Counters.increments])

theorem State.takeLeave_capStep (s : State) (st : Station) (i : Fin 32) : s.CapStep (s.takeLeave st i) := by
  unfold State.takeLeave
  split
  · exact s.setSend_capStep _ _
  · exact s.count_increment_capStep (by simp [Counters.increments])

theorem State.withSends_capStep (s : State) (v : Vector (List Subscriber) 24) : s.CapStep { s with sends := v } := {}

theorem State.sendAbsence_capStep (s : State) (st : Station) : s.CapStep (s.sendAbsence st) := s.withSends_capStep _

theorem State.announce_capStep (s : State) : s.CapStep s.announce := by
  unfold State.announce
  split
  · exact s.hand_capStep _
  · exact .refl s

theorem State.reportAbsence_capStep (s : State) (st : Station) : s.CapStep (s.reportAbsence st) :=
  (((s.sendAbsence_capStep st).trans (State.arbiterAbsence_capStep _ _)).trans (State.talkerAbsence_capStep _ _)).trans
    (State.listenAbsence_capStep _ _)

theorem State.setRecord_capStep (s : State) (st : Station) (r : RosterRecord) : s.CapStep (s.setRecord st r) := by
  unfold State.setRecord
  split
  · exact {}
  · exact .refl s

theorem State.takePresence_capStep (s : State) (st : Station) (hop : Fin 64) (q : Seq) (l d : BitVec 8) :
    s.CapStep (s.takePresence st hop q l d) := by
  unfold State.takePresence
  dsimp only
  have hheard := s.setRecord_capStep st ⟨true, some q, some s.clock.now, hop, l, d⟩
  split
  · split
    · split
      · exact hheard
      · exact ((hheard.trans (State.emit_capStep _ _)).trans (State.reportAbsence_capStep _ _)).trans
          (State.listenReturn_capStep _ _)
    · exact (hheard.trans (State.emit_capStep _ _)).trans (State.listenReturn_capStep _ _)
  · exact .refl s

/-- A station that falls SILENT has nothing queued (R140). -/
theorem State.silenced_capStep (s : State) : s.CapStep { s with mode := .silent, sched := s.sched.flush } where
  queues h := ⟨Nat.zero_le _, fun c => by simp [Scheduler.flush]⟩
  quiet h _ := ⟨rfl, fun c => by simp [Scheduler.flush]⟩

theorem State.duplicate_capStep (s : State) (q : Seq) : s.CapStep (s.duplicate q) := by
  unfold State.duplicate
  split
  · exact s.silenced_capStep.trans (State.emit_capStep _ _)
  · exact .refl s
  · exact .refl s

/-! ### The scheduler -/

/-- A scheduler in place of another with the same notes, no longer queues, and as quiet. -/
theorem State.withSched_capStep (s : State) (q : Scheduler) (hnotes : q.notes.length ≤ s.sched.notes.length)
    (hqueues : ∀ c : Cls, q.queues[c].length ≤ s.sched.queues[c].length) : s.CapStep { s with sched := q } where
  queues h := ⟨hnotes.trans h.1, fun c => (hqueues c).trans (h.2 c)⟩
  quiet h hmode := by
    obtain ⟨hn, hq⟩ := h hmode
    refine ⟨List.eq_nil_of_length_eq_zero (Nat.le_zero.1 (hnotes.trans (by rw [hn]; rfl))), fun c => ?_⟩
    exact List.eq_nil_of_length_eq_zero (Nat.le_zero.1 ((hqueues c).trans (by rw [hq c]; rfl)))

theorem State.ageQueues_capStep (s : State) : s.CapStep s.ageQueues :=
  (s.withSched_capStep s.sched.aged le_rfl fun c => by simp [Scheduler.aged]).trans
    (State.setRing_capStep _ { s.ring with insertion := _ } id)

theorem State.appendBurst_capStep (s : State) (b : Burst) (hmode : s.mode = .active) : s.CapStep (s.appendBurst b) := by
  have hset : ∀ l : List Burst, l.length ≤ 16 → s.CapStep
      { s with sched := { s.sched with queues := s.sched.queues.set b.cls l } } := fun l hl =>
    { queues := fun h => ⟨h.1, forall_vector_set (P := fun _ (l : List Burst) => l.length ≤ 16) h.2 hl⟩
      quiet := fun _ hne => absurd hmode hne }
  have hqueue : s.QueuesBounded → s.sched.queues[b.cls].length ≤ 16 := fun h => h.2 b.cls
  unfold State.appendBurst
  dsimp only
  split
  case isTrue hlt => exact hset _ (by simpa [Config.maxBursts] using hlt)
  case isFalse =>
    refine .trans ?_ (State.count_increment_capStep _ (by simp [Counters.increments]))
    exact {
      queues := fun h => ⟨h.1, forall_vector_set (P := fun _ (l : List Burst) => l.length ≤ 16) h.2 (by
        have hlen := hqueue h
        simp only [List.length_append, List.length_drop, List.length_cons, List.length_nil]
        omega)⟩
      quiet := fun _ hne => absurd hmode hne }

theorem State.captureOne_capStep (seen : PortNo → Bool) (s : State) (n : SourceNo) :
    s.CapStep (State.captureOne seen s n) := by
  unfold State.captureOne
  split
  case h_1 hmode _ _ => exact s.appendBurst_capStep _ hmode
  case h_2 => exact .refl s

theorem State.captureAll_capStep (s : State) (seen : PortNo → Bool) : s.CapStep (s.captureAll seen) :=
  foldl_capStep _ (State.captureOne_capStep seen) _ s

/-- Testing a class queue keeps a tail of it, and counts only discards (R136 to R138). -/
theorem takeBurstFrom_spec (last : Vector (Option LastInserted) 24) (l : List Burst) : ∀ c : Counters,
    (takeBurstFrom last l c).2.1.length ≤ l.length ∧ (c.Within → (takeBurstFrom last l c).2.2.Within) := by
  induction l with
  | nil => exact fun c => ⟨le_rfl, id⟩
  | cons b l ih =>
    intro c
    unfold takeBurstFrom
    split
    · obtain ⟨hlen, hc⟩ := ih c.incLateTx
      exact ⟨Nat.le_succ_of_le hlen, fun h => hc (Counters.increments_safe _ (by simp [Counters.increments]) c h)⟩
    · split
      · exact ⟨Nat.le_succ _, id⟩
      · obtain ⟨hlen, hc⟩ := ih c.incStale
        exact ⟨Nat.le_succ_of_le hlen, fun h => hc (Counters.increments_safe _ (by simp [Counters.increments]) c h)⟩

/-- What one class queue loses to its tests, and what they count. -/
theorem State.tested_capStep (s : State) (c : Cls) (l : List Burst) (cs : Counters)
    (hl : l.length ≤ s.sched.queues[c].length) (hcs : s.counters.Within → cs.Within) :
    s.CapStep { s with sched := { s.sched with queues := s.sched.queues.set c l }, counters := cs } :=
  (s.withSched_capStep { s.sched with queues := s.sched.queues.set c l } le_rfl fun d => by
      rw [vector_set_getElem]
      split
      case isTrue h => exact h ▸ hl
      case isFalse => exact le_rfl).trans { counters := hcs }

theorem State.selectBurst_capStep (cs : List Cls) : ∀ s : State, s.CapStep (State.selectBurst cs s).2 := by
  induction cs with
  | nil => exact fun s => .refl s
  | cons c cs ih =>
    intro s
    obtain ⟨hlen, hcounters⟩ := takeBurstFrom_spec s.sched.last s.sched.queues[c] s.counters
    have hleft := s.tested_capStep c _ _ hlen hcounters
    unfold State.selectBurst
    dsimp only
    split
    · exact hleft
    · exact hleft.trans (ih _)

theorem State.select_capStep (s : State) : s.CapStep s.select.2 := by
  unfold State.select
  split
  case h_1 n ns hnotes =>
    exact s.withSched_capStep _ (by rw [hnotes]; exact Nat.le_succ _) fun _ => le_rfl
  case h_2 => exact State.selectBurst_capStep _ s

theorem State.recordInserted_capStep (s : State) (m : Message) : s.CapStep (s.recordInserted m) := by
  unfold State.recordInserted
  split
  · exact .refl s
  · exact {}

end Sys2Proof.Machine

/-!
SUPPORT. The ring interface, the mixes and the control port keep every capacity, and so does every command and every step.
-/

namespace Sys2Proof.Machine

/-! ### The ring interface -/

/-- Ring-out's next word time holds no more words than before. -/
theorem Ring.emit_buffer_length_le (r : Ring) (x : Symbol) : (r.emit x).buffer.length ≤ r.buffer.length :=
  (r.emit_outStep x).buffer.length_le

theorem markEnd_length (l : List Held) : (markEnd l).length = l.length := by
  induction l with
  | nil => rfl
  | cons h l ih =>
    cases l with
    | nil => rfl
    | cons g l => exact congrArg (· + 1) ih

theorem Ring.endBuffered_buffer_length (r : Ring) : r.endBuffered.buffer.length = r.buffer.length := by
  unfold Ring.endBuffered
  split
  · rfl
  · exact markEnd_length _

theorem Ring.lt_of_not_full {r : Ring} (h : ¬ r.full = true) : r.buffer.length < 64 := by
  rw [Ring.full, decide_eq_true_eq, Nat.not_le] at h
  exact h

/-- A ring interface with no longer a buffer in place of that of `s`. -/
theorem State.setRing_le_capStep (s : State) (r : Ring) (h : r.buffer.length ≤ s.ring.buffer.length) :
    s.CapStep (s.setRing r) := s.setRing_capStep r fun hs => h.trans hs

theorem State.setRing_emit_capStep (s : State) (r : Ring) (x : Symbol) (h : r.buffer.length ≤ s.ring.buffer.length) :
    s.CapStep (s.setRing (r.emit x)) := s.setRing_le_capStep _ ((r.emit_buffer_length_le x).trans h)

/-- A word joins a buffer that is not full, and one leaves in the same word time (R92, R98). -/
theorem State.setRing_append_capStep (s : State) (r : Ring) (w : Held) (x : Symbol)
    (hr : r.buffer.length ≤ s.ring.buffer.length) (h : ¬ s.ring.full = true) :
    s.CapStep (s.setRing ((r.append w).emit x)) :=
  s.setRing_capStep _ fun _ => ((r.append w).emit_buffer_length_le x).trans (by
    have hlt := Ring.lt_of_not_full h
    simp only [Ring.append, List.length_append, List.length_cons, List.length_nil]
    omega)

theorem State.completeCopy_capStep (s : State) (c : Collect) (ws : List Word) : s.CapStep (s.completeCopy c ws) := by
  have hcheck : s.CapStep (s.count Counters.incCheck) := s.count_increment_capStep (by simp [Counters.increments])
  unfold State.completeCopy
  split
  · exact .refl s
  · exact .refl s
  · split
    · split
      · exact s.setRing_le_capStep _ le_rfl
      · exact s.count_increment_capStep (by simp [Counters.increments])
    · exact hcheck
  · split
    · exact s.setRing_le_capStep _ le_rfl
    · exact hcheck

theorem State.takeHeader_capStep (s : State) (w : Word) : s.CapStep (s.takeHeader w) := by
  unfold State.takeHeader
  split
  · refine .trans ?_ (State.count_increment_capStep _ (by simp [Counters.increments]))
    exact s.setRing_emit_capStep _ _ le_rfl
  · split
    · exact s.setRing_emit_capStep _ _ le_rfl
    · split
      · exact s.setRing_emit_capStep _ _ le_rfl
      · dsimp only
        split
        · split
          case isTrue =>
            refine .trans ?_ (State.count_increment_capStep _ (by simp [Counters.increments]))
            exact s.setRing_emit_capStep _ _ le_rfl
          case isFalse hfull => exact s.setRing_append_capStep _ _ _ le_rfl hfull
        · exact s.setRing_emit_capStep _ _ le_rfl

theorem State.forwardWord_capStep (s : State) (p : Path) (w : Word) (last : Bool) :
    s.CapStep (s.forwardWord p w last).1 := by
  unfold State.forwardWord
  split
  · exact s.setRing_emit_capStep _ _ le_rfl
  · exact s.setRing_emit_capStep _ _ le_rfl
  · exact s.setRing_emit_capStep _ _ le_rfl
  · split
    case isTrue =>
      exact (s.setRing_emit_capStep _ _ s.ring.endBuffered_buffer_length.le).trans
        (State.count_increment_capStep _ (by simp [Counters.increments]))
    case isFalse hfull => exact s.setRing_append_capStep _ _ _ le_rfl hfull

theorem State.takeBody_capStep (s : State) (m : Arrival) (w : Word) : s.CapStep (s.takeBody m w) := by
  unfold State.takeBody
  dsimp only
  have hforward := s.forwardWord_capStep m.path w (decide (m.left ≤ 1))
  split
  · refine .trans (hforward.trans ?_) (State.completeCopy_capStep _ _ _)
    exact State.setRing_le_capStep _ _ le_rfl
  · exact hforward.trans (State.setRing_le_capStep _ _ le_rfl)

theorem State.dataWord_capStep (s : State) (w : Word) : s.CapStep (s.dataWord w) := by
  unfold State.dataWord
  split
  · exact .refl s
  · split
    · exact s.setRing_le_capStep _ le_rfl
    · split
      · exact s.setRing_emit_capStep _ _ le_rfl
      · split
        · exact s.setRing_emit_capStep _ _ le_rfl
        · exact s.setRing_emit_capStep _ _ le_rfl
        · exact s.takeHeader_capStep w
        · exact s.takeBody_capStep _ w

theorem State.cutMessage_capStep (s : State) : s.CapStep s.cutMessage := by
  unfold State.cutMessage
  split
  case h_1 m _ =>
    dsimp only
    have hcounted : s.CapStep (if m.collect.collecting = true then s.count Counters.incPartial else s) := by
      split
      · exact s.count_increment_capStep (by simp [Counters.increments])
      · exact .refl s
    split
    · exact hcounted.trans (State.setRing_le_capStep _ _ (Ring.endBuffered_buffer_length _).le)
    · exact hcounted
    · exact hcounted
    · exact hcounted
  · exact .refl s
  · exact .refl s
  · exact .refl s

theorem State.idleSymbol_capStep (s : State) : s.CapStep s.idleSymbol := by
  unfold State.idleSymbol
  split
  · exact .refl s
  · split
    · exact s.setRing_le_capStep _ le_rfl
    · split
      · exact s.setRing_emit_capStep _ _ le_rfl
      · exact s.cutMessage_capStep.trans (State.setRing_emit_capStep _ _ _ le_rfl)

theorem State.loseAlignment_capStep (s : State) : s.CapStep s.loseAlignment := by
  unfold State.loseAlignment
  dsimp only
  split
  · have hlost := s.setRing_le_capStep { s.ring with aligned := false, alignedAt := s.clock.now } le_rfl
    split
    · exact hlost.trans (State.setRing_le_capStep _ _ le_rfl)
    · split
      · exact (hlost.trans (State.cutMessage_capStep _)).trans (State.setRing_le_capStep _ _ le_rfl)
      · exact (hlost.trans (State.cutMessage_capStep _)).trans (State.setRing_le_capStep _ _ le_rfl)
  · exact .refl s

/-! ### Copies -/

/-- A copy handed on keeps the capacities if its owner does. -/
theorem State.handOn_capStep (s : State) (c : Instr) (good : Bool) (owner : State → State)
    (hown : ∀ u : State, u.CapStep (owner u)) : s.CapStep (s.handOn c good owner) := by
  unfold State.handOn
  split
  · split
    · exact hown s
    · split
      · refine .trans ?_ (hown _)
        exact s.setRing_le_capStep _ le_rfl
      · exact .refl s
  · exact s.count_increment_capStep (by simp [Counters.increments])

theorem State.dispatchOwn_capStep (s : State) (target : Station) (owner : State → State)
    (hown : ∀ u : State, u.CapStep (owner u)) : s.CapStep (s.dispatchOwn target owner) := by
  unfold State.dispatchOwn
  split
  · exact s.count_increment_capStep (by simp [Counters.increments])
  · exact hown s

theorem State.takeTalkState_capStep (s : State) (o : Station) (n : TalkNo) (m : Fin 32) (st : Fin 8) (re : Fin 16) :
    s.CapStep (s.takeTalkState o n m st re) := by
  unfold State.takeTalkState
  split
  · exact s.takeReply_capStep _ _
  · exact s.count_increment_capStep (by simp [Counters.increments])

/-- A change made on a condition. -/
theorem State.ite_capStep {s t u : State} {c : Prop} {_ : Decidable c} (ht : s.CapStep t) (hu : s.CapStep u) :
    s.CapStep (if c then t else u) := by
  split
  · exact ht
  · exact hu

/-! ### The mixes -/

theorem dimStep_le {d target : Nat} (ramp : Nat) (hd : d ≤ 32768) (ht : target ≤ 32768) : dimStep d target ramp ≤ 32768 := by
  unfold dimStep
  repeat' split
  all_goals omega

/-- The protect loop keeps trim steps within 0 to 7 and clean runs within 0 to 249, and leaves the dim gain (R42, R43). -/
theorem MixState.protect_spec (st : MixState) (p high low wrong : Nat) :
    (st.protect p high low wrong).1.dimGain = st.dimGain ∧
    (st.trim ≤ 7 → (st.protect p high low wrong).1.trim ≤ 7) ∧ (st.protect p high low wrong).1.cleanRun ≤ 249 := by
  unfold MixState.protect
  dsimp only
  repeat' split
  all_goals
    refine ⟨rfl, fun h => ?_, ?_⟩ <;> dsimp only <;> omega

theorem State.withMixes_capStep (s : State) (v : Vector MixState 24)
    (hv : s.GainsBounded → ∀ m : Mix, v[m].dimGain ≤ 32768 ∧ v[m].trim ≤ 7 ∧ v[m].cleanRun ≤ 249) :
    s.CapStep { s with mixes := v } where
  gains h m := by
    obtain ⟨hdim, htrim, hclean⟩ := hv h m
    exact ⟨hdim, htrim, hclean, (h m).2.2.2⟩

theorem State.withAudio_capStep (s : State) (a : Audio) : s.CapStep { s with audio := a } := {}

/-- A pass start as the update of the gains, the pass taken, and the play of the listen entries (R21, R24, R37). -/
theorem State.startPass_eq (s : State) (seen : PortNo → Bool) : s.startPass seen =
    ({ s with
      mixes := Vector.ofFn s.dimmed
      audio := { s.audio with pass := some ⟨s.audio.blockCounter, Vector.ofFn (s.passMix seen)⟩ } } : State).playAll := rfl

theorem State.dimTarget_le {s : State} (h : s.GainsBounded) (m : Mix) : s.dimTarget m ≤ 32768 := by
  unfold State.dimTarget
  split
  · exact (h m).2.2.2
  · exact le_rfl

theorem State.startPass_capStep (s : State) (seen : PortNo → Bool) : s.CapStep (s.startPass seen) := by
  rw [State.startPass_eq]
  refine .trans (.trans (s.withMixes_capStep (Vector.ofFn s.dimmed) fun h m => ?_) (State.withAudio_capStep _ _))
    (State.playAll_capStep _)
  obtain ⟨hgain, htrim, hclean, -⟩ := h m
  rw [Fin.getElem_fin, Vector.getElem_ofFn]
  exact ⟨dimStep_le _ hgain (State.dimTarget_le h m), htrim, hclean⟩

theorem State.protectMix_capStep (pass : Pass) (s : State) (m : Mix) : s.CapStep (State.protectMix pass s m) := by
  have hspec := s.mixes[m].protect_spec s.cfg.mixes[m].protect (clipCount pass.mixes[m] .high)
    (clipCount pass.mixes[m] .low) (clipCount pass.mixes[m] .wrong)
  obtain ⟨hdim, htrim, hclean⟩ := hspec
  have hplaced := s.withMixes_capStep (s.mixes.set m (s.mixes[m].protect s.cfg.mixes[m].protect
    (clipCount pass.mixes[m] .high) (clipCount pass.mixes[m] .low) (clipCount pass.mixes[m] .wrong)).1)
    fun h => forall_vector_set (P := fun _ (st : MixState) => st.dimGain ≤ 32768 ∧ st.trim ≤ 7 ∧ st.cleanRun ≤ 249)
      (fun j => ⟨(h j).1, (h j).2.1, (h j).2.2.1⟩) ⟨hdim ▸ (h m).1, htrim (h m).2.1, hclean⟩
  unfold State.protectMix
  dsimp only
  split
  · exact hplaced
  · exact hplaced.trans (State.emit_capStep _ _)

theorem State.deliverReturns_capStep (s : State) (pass : Pass) : s.CapStep (s.deliverReturns pass) :=
  foldl_capStep _ (fun s k => s.deliverReturn_capStep k _) _ s

theorem State.endPass_capStep (s : State) : s.CapStep s.endPass := by
  unfold State.endPass
  split
  · exact .refl s
  · exact (((s.withAudio_capStep _).trans (State.deliverReturns_capStep _ _)).trans
      (foldl_capStep _ (State.protectMix_capStep _) _ _)).trans (State.withAudio_capStep _ _)

theorem State.completed_capStep (s : State) (a : Audio) (n : Nat) : s.CapStep { s with audio := a, choices := n } := {}

theorem State.blockCompletion_capStep (s : State) (l : List (Vector Sample 16)) : s.CapStep (s.blockCompletion l) := by
  unfold State.blockCompletion
  dsimp only
  refine .trans ?_ (foldl_capStep _ State.portCompletion_capStep _ _)
  refine .trans (.trans ?_ (State.ageQueues_capStep _)) (State.captureAll_capStep _ _)
  refine .trans ((s.completed_capStep (s.audio.complete l) (s.choices + 1)).trans (State.endPass_capStep _)) ?_
  exact State.ite_capStep (State.startPass_capStep _ _) (.refl _)

/-! ### The control port -/

/-- A station that takes its configuration has dim depths within their range, and is ACTIVE (R188, R189). -/
theorem State.takeConfig_capStep (s : State) (c : Configuration) (hc : ∀ m : Mix, c.mixes[m].dimDepth ≤ 32768) :
    s.CapStep (s.takeConfig c) where
  gains h m := by
    obtain ⟨hdim, htrim, hclean, -⟩ := h m
    exact ⟨hdim, htrim, hclean, hc m⟩

theorem State.openBypass_capStep (s : State) : s.CapStep s.openBypass where
  quiet _ hne := absurd rfl hne

theorem State.configurePort_capStep (c : Configuration) (s : State) (k : PortNo) :
    s.CapStep (State.configurePort c s k) := by
  unfold State.configurePort
  dsimp only
  split
  · exact s.movePort_capStep _ _ _ fun h => h k
  · exact s.setPort_capStep _ _ fun h => h k

theorem argMix_dimDepth_le {args : List Word} {i : Nat} {c : MixConfig} (h : argMix args i = some c) :
    c.dimDepth ≤ 32768 := by
  simp only [argMix, Option.bind_eq_bind, Option.bind_eq_some_iff, Option.pure_def, Option.some.injEq] at h
  obtain ⟨_, _, _, _, _, _, _, _, _, _, _, _, rfl⟩ := h
  exact Nat.min_le_right _ _

theorem argConfiguration_dimDepth_le {args : List Word} {c : Configuration} (h : argConfiguration args = some c) (m : Mix) :
    c.mixes[m].dimDepth ≤ 32768 := by
  have hmix : c.mixes[m] = (argMix args (7 + 10 * m.val)).getD MixConfig.reset := by
    simp only [argConfiguration, Option.bind_eq_bind, Option.bind_eq_some_iff, Option.pure_def] at h
    obtain ⟨_, _, _, _, h⟩ := h
    repeat' split at h
    all_goals simp_all
    rw [← h]
    simp
  rw [hmix]
  cases hm : argMix args (7 + 10 * m.val) with
  | none => exact le_rfl
  | some x => exact argMix_dimDepth_le hm

theorem State.configure_capStep (s : State) {args : List Word} {c : Configuration} (h : argConfiguration args = some c) :
    s.CapStep (s.configure c) :=
  (((s.takeConfig_capStep c (argConfiguration_dimDepth_le h)).trans (State.openBypass_capStep _)).trans
    (foldl_capStep _ (State.configurePort_capStep c) _ _)).trans (State.announce_capStep _)

/-- A command keeps the capacities if its own meaning does; what its checks answer changes no capacity (R186). -/
theorem State.command_capStep (s : State) (code : BitVec 8) (n : Nat) (args : List Word) (own : State → State)
    (hown : s.CapStep (own s)) : s.CapStep (s.command code n args own) :=
  State.ite_capStep hown (s.respond_capStep _ _ _ _)

theorem State.configuredCommand_capStep (s : State) (code : BitVec 8) (n : Nat) (args : List Word) (own : State → State)
    (hown : s.CapStep (own s)) : s.CapStep (s.configuredCommand code n args own) :=
  s.command_capStep code n args _ (State.ite_capStep hown (s.respond_capStep _ _ _ _))

theorem State.read_capStep (s : State) (code : BitVec 8) (n : Nat) (args : List Word) (words : Fin n → List Word) :
    s.CapStep (s.read code n args words) := by
  refine s.command_capStep code 1 args _ ?_
  split
  · exact s.respond_capStep _ _ _ _
  · exact s.respond_capStep _ _ _ _

/-- A device reset leaves every table, queue and counter empty (R102, R194). -/
theorem State.resetFrom_capStep (s : State) (l : List Instr) (c : Clock) (a : Bool) (n : Nat) :
    s.CapStep (State.resetFrom l c a n) where
  events _ := ⟨Nat.zero_le _, Nat.zero_le _⟩
  queues _ := ⟨Nat.zero_le _, fun c => by simp [State.resetFrom, Scheduler.reset]⟩
  quiet _ _ := ⟨rfl, fun c => by simp [State.resetFrom, Scheduler.reset]⟩
  buffer _ := Nat.zero_le _
  portBuffers _ k := by simp [State.resetFrom, Port.reset]
  counters _ := by simp [State.CountersBounded, State.resetFrom, Counters.zero]
  gains _ m := by simp [State.resetFrom, MixState.reset, StationConfig.reset, MixConfig.reset]
  windows _ k e he := by simp [State.resetFrom] at he
  routes _ := by simp [State.RoutesWithin, State.resetFrom]
  talks _ := by simp [State.TalksWithin, State.resetFrom]
  replies _ n t ht := by simp [State.resetFrom] at ht

end Sys2Proof.Machine

/-!
SUPPORT. Every command keeps every capacity, chapter by chapter.
-/

namespace Sys2Proof.Machine

/-- A command's outcome is a next state that keeps every capacity. -/
def State.Capacious (s : State) (o : Host.Outcome State Fault Refusal) : Prop := ∃ t, o = .next t ∧ s.CapStep t

theorem State.CapStep.capacious {s t : State} (h : s.CapStep t) : s.Capacious (.next t) := ⟨t, rfl, h⟩

/-! ### The control port -/

theorem execConfigure_capacious (args : List Word) (s : State) : s.Capacious (execConfigure args s) := by
  refine (s.command_capStep _ _ _ _ ?_).capacious
  refine State.ite_capStep (s.respond_capStep _ _ _ _) ?_
  split
  case h_1 => exact s.respond_capStep _ _ _ _
  case h_2 c hc => exact (s.configure_capStep hc).trans (State.respond_capStep _ _ _ _ _)

theorem execKeyDown_capacious (args : List Word) (s : State) : s.Capacious (execKeyDown args s) := by
  refine (s.configuredCommand_capStep _ _ _ _ ?_).capacious
  split
  · exact s.respond_capStep _ _ _ _
  · split
    · exact s.respond_capStep _ _ _ _
    · exact (s.createTalk_capStep _ _ (Nat.zero_le _)).trans (State.respond_capStep _ _ _ _ _)

theorem execKeyUp_capacious (args : List Word) (s : State) : s.Capacious (execKeyUp args s) := by
  refine (s.configuredCommand_capStep _ _ _ _ ?_).capacious
  split
  · exact s.respond_capStep _ _ _ _
  · exact (s.releaseTalk_capStep _).trans (State.respond_capStep _ _ _ _ _)

theorem execSetRoute_capacious (args : List Word) (s : State) : s.Capacious (execSetRoute args s) := by
  refine (s.configuredCommand_capStep _ _ _ _ ?_).capacious
  split
  · exact s.respond_capStep _ _ _ _
  · exact State.ite_capStep (s.respond_capStep _ _ _ _) (s.routeCommand_capStep _)

theorem execFieldReset_capacious (args : List Word) (s : State) : s.Capacious (execFieldReset args s) := by
  refine (s.configuredCommand_capStep _ _ _ _ ?_).capacious
  split
  · exact s.respond_capStep _ _ _ _
  · exact State.ite_capStep (s.respond_capStep _ _ _ _) ((s.toIdle_capStep _ _ _).trans (State.respond_capStep _ _ _ _ _))

theorem execReadRoster_capacious (args : List Word) (s : State) : s.Capacious (execReadRoster args s) :=
  (s.command_capStep _ _ _ _ (s.respond_capStep _ _ _ _)).capacious

theorem State.clearCounters_capStep (s : State) : s.CapStep { s with counters := Counters.zero } where
  counters _ := by simp [State.CountersBounded, Counters.zero]

theorem execReadCounters_capacious (args : List Word) (s : State) : s.Capacious (execReadCounters args s) :=
  (s.command_capStep _ _ _ _ ((s.respond_capStep _ _ _ _).trans (State.clearCounters_capStep _))).capacious

theorem State.dropEvent_capStep (s : State) {l : List Event} (h : l.length ≤ s.events.queue.length) :
    s.CapStep { s with events := ⟨l, 0⟩ } where
  events hs := ⟨h.trans hs.1, Nat.zero_le _⟩

theorem execNextEvent_capacious (args : List Word) (s : State) : s.Capacious (execNextEvent args s) := by
  refine (s.command_capStep _ _ _ _ ?_).capacious
  split
  case h_1 => exact (s.respond_capStep _ _ _ _).trans (State.dropEvent_capStep _ (Nat.zero_le _))
  case h_2 e es he =>
    refine (s.respond_capStep _ _ _ _).trans (State.dropEvent_capStep _ ?_)
    rw [State.respond_events, he]
    exact Nat.le_succ _

theorem State.frame_capStep (s : State) (r f : Option Response) (b : Bool) :
    s.CapStep { s with response := r, selected := b, frameReply := f } := {}

theorem execFrameAbort_capacious (received : List Word) (s : State) : s.Capacious (execFrameAbort received s) := by
  refine State.CapStep.capacious ?_
  split
  · exact State.ite_capStep (s.frame_capStep _ _ _) (s.frame_capStep _ _ _)
  · exact State.ite_capStep (s.frame_capStep _ _ _) (State.ite_capStep (s.frame_capStep _ _ _) (s.frame_capStep _ _ _))

/-! ### Local audio -/

theorem execLocalSample_capacious (x : Vector Sample 16) (s : State) : s.Capacious (execLocalSample x s) := by
  have hfilled := (s.reach_capStep (s.audio.sampleAt + Config.countsPerSample)).trans (State.withAudio_capStep _
    { s.audio with current := s.audio.current ++ [x], sampleAt := s.audio.sampleAt + Config.countsPerSample })
  exact (State.ite_capStep (hfilled.trans (State.blockCompletion_capStep _ _)) hfilled).capacious

/-! ### Field ports -/

theorem execInboundSampleMoment_capacious (k : PortNo) (s : State) : s.Capacious (execInboundSampleMoment k s) := by
  refine (State.ite_capStep ?_ (.refl s)).capacious
  split
  · exact (s.reach_capStep _).trans (State.setPort_capStep _ _ _ fun h => Port.convertIn_within (h k) _ _)
  · refine .trans ?_ (State.count_increment_capStep _ (by simp [Counters.increments]))
    exact (s.reach_capStep _).trans (State.setPort_capStep _ _ _ fun h => Port.produce_within (h k) _)

theorem execOutboundWordRequest_capacious (k : PortNo) (s : State) : s.Capacious (execOutboundWordRequest k s) := by
  refine (State.ite_capStep ?_ ?_).capacious
  case refine_2 => exact s.setPort_capStep _ _ fun h => h k
  split
  · exact s.setPort_capStep _ _ fun h => Port.convertOut_within (h k) _ _
  · refine .trans ?_ (State.count_increment_capStep _ (by simp [Counters.increments]))
    exact s.setPort_capStep _ _ fun h => h k

theorem execTrainWord_capacious (k : PortNo) (s : State) : s.Capacious (execTrainWord k s) := by
  refine (s.takeWord_capStep k _ fun u p hp => ?_).capacious
  split
  · exact u.startTraining_capStep _ _ _ hp
  · exact u.nextStamp_capStep _ _ hp
  · exact u.nextStamp_capStep _ _ hp
  · exact u.toIdle_capStep _ _ _
  · exact u.startTraining_capStep _ _ _ hp
  · exact u.startTraining_capStep _ _ _ hp
  · exact .refl u
  · exact .refl u

theorem execCodeWord_capacious (k : PortNo) (x : Sample) (s : State) : s.Capacious (execCodeWord k x s) := by
  refine (s.takeWord_capStep k _ fun u p hp => ?_).capacious
  split
  · exact u.takeCode_capStep _ _ _ hp
  · exact u.toIdle_capStep _ _ _
  · exact u.toIdle_capStep _ _ _
  all_goals exact .refl u

theorem execSampleWord_capacious (k : PortNo) (x : Sample) (s : State) : s.Capacious (execSampleWord k x s) := by
  refine (s.takeWord_capStep k _ fun u p hp => ?_).capacious
  split
  · exact u.takeSample_capStep _ _ _ hp
  · exact u.takeSample_capStep _ _ _ hp
  · exact u.toIdle_capStep _ _ _
  · exact u.toIdle_capStep _ _ _
  · exact u.toIdle_capStep _ _ _
  all_goals exact .refl u

theorem execTalkOnWord_capacious (k : PortNo) (s : State) : s.Capacious (execTalkOnWord k s) := by
  refine (s.takeWord_capStep k _ fun u p hp => ?_).capacious
  split
  · exact u.portTalkOn_capStep _
  · exact u.toIdle_capStep _ _ _
  · exact u.toIdle_capStep _ _ _
  · exact u.toIdle_capStep _ _ _
  all_goals exact .refl u

theorem execTalkOffWord_capacious (k : PortNo) (s : State) : s.Capacious (execTalkOffWord k s) := by
  refine (s.takeWord_capStep k _ fun u p hp => ?_).capacious
  split
  · exact u.releasePortTalk_capStep _
  · exact u.releasePortTalk_capStep _
  · exact u.toIdle_capStep _ _ _
  · exact u.toIdle_capStep _ _ _
  · exact u.toIdle_capStep _ _ _
  all_goals exact .refl u

theorem execEndWord_capacious (k : PortNo) (s : State) : s.Capacious (execEndWord k s) := by
  refine (s.takeWord_capStep k _ fun u p hp => ?_).capacious
  split
  · exact u.toIdle_capStep _ _ _
  · exact u.toIdle_capStep _ _ _
  · exact u.toIdle_capStep _ _ _
  · exact u.toIdle_capStep _ _ _
  · exact u.toIdle_capStep _ _ _
  all_goals exact .refl u

theorem execIdleWord_capacious (k : PortNo) (i : Fin 16) (s : State) : s.Capacious (execIdleWord k i s) := by
  refine (s.takeWord_capStep k _ fun u p hp => ?_).capacious
  split
  · exact u.toIdle_capStep _ _ _
  · exact u.toIdle_capStep _ _ _
  all_goals exact .refl u

/-- A timer of a port that runs out sends it to IDLE, or does nothing. -/
theorem State.portTimer_capStep (s : State) (due : Option Nat) (c : Prop) [Decidable c] (k : PortNo) (p : Port) (f : PortFault) :
    s.CapStep (match due with
      | some t => if c then (s.reach t).toIdle k p f else s
      | none => s) := by
  split
  · exact State.ite_capStep ((s.reach_capStep _).trans (State.toIdle_capStep _ _ _ _)) (.refl s)
  · exact .refl s

/-! ### The ring interface -/

theorem execRingDown_capacious (s : State) : s.Capacious (execRingDown s) := by
  refine (State.ite_capStep ?_ (.refl s)).capacious
  refine .trans (.trans (s.reach_capStep (s.ring.alignedAt + Config.downCounts)) ?_) (State.emit_capStep _ _)
  exact State.setRing_le_capStep _ _ (Nat.zero_le _)

theorem execRingUp_capacious (s : State) : s.Capacious (execRingUp s) := by
  refine (State.ite_capStep ?_ (.refl s)).capacious
  refine .trans (.trans (s.reach_capStep (s.ring.alignedAt + Config.ms 1)) ?_) (State.emit_capStep _ _)
  exact State.setRing_le_capStep _ _ le_rfl

theorem execInsertionStart_capacious (s : State) : s.Capacious (execInsertionStart s) := by
  have hselect := s.select_capStep
  refine (State.ite_capStep ?_ (.refl s)).capacious
  split
  case h_1 left hleft => rwa [hleft] at hselect
  case h_2 m left hleft =>
    rw [hleft] at hselect
    refine hselect.trans ?_
    exact State.setRing_le_capStep _ _ le_rfl

theorem execInsertionEnd_capacious (s : State) : s.Capacious (execInsertionEnd s) := by
  refine State.CapStep.capacious ?_
  split
  · exact .refl s
  · refine .trans ?_ (State.recordInserted_capStep _ _)
    exact s.setRing_le_capStep _ le_rfl

/-! ### Rosters, subscriptions and the timers of the tables -/

theorem execLapseTimerExpiry_capacious (o : Station) (n : TalkNo) (m : Mix) (s : State) :
    s.Capacious (execLapseTimerExpiry o n m s) := by
  refine State.CapStep.capacious ?_
  split
  · exact (s.reach_capStep _).trans (State.lapse_capStep _ _ _ _)
  · split
    · exact (s.reach_capStep _).trans (State.lapse_capStep _ _ _ _)
    · exact .refl s

theorem execRefreshTimerExpiry_capacious (n : TalkNo) (s : State) : s.Capacious (execRefreshTimerExpiry n s) := by
  refine State.CapStep.capacious ?_
  split
  case h_1 => exact .refl s
  case h_2 x hx =>
    refine .trans (.trans (s.reach_capStep x.refreshDue) ?_) (State.sendTalk_capStep _ _ _)
    exact State.setOut_capStep _ _ _ fun h t ht => Option.mem_some_iff.1 ht ▸ h n x hx

/-- The UNANSWERED timer changes a record in its place, its replies as they were (R79). -/
theorem State.answerTimer_capStep (s : State) (due : Nat) (n : TalkNo) {x : OutTalk} (hx : s.outTalks[n] = some x)
    (y : OutTalk) (hy : y.replies = x.replies) (b : Bool) :
    s.CapStep (if b then (s.reach due).putSummed n x.summary y else (s.reach due).setOut n (some y)) := by
  have hlen : (s.reach due).RepliesWithin → y.replies.length ≤ 8 := fun h => hy ▸ h n x hx
  refine .trans (s.reach_capStep due) (State.ite_capStep ?_ ?_)
  · exact State.putSummed_capStep _ _ _ _ hlen
  · exact State.setOut_capStep _ _ _ fun h t ht => Option.mem_some_iff.1 ht ▸ hlen h

theorem execUnansweredTimerExpiry_capacious (n : TalkNo) (s : State) : s.Capacious (execUnansweredTimerExpiry n s) := by
  refine State.CapStep.capacious ?_
  split
  case h_1 => exact .refl s
  case h_2 x hx =>
    refine State.ite_capStep (.refl s) ?_
    exact s.answerTimer_capStep _ n hx { x with answerTimerRan := true } rfl _

theorem State.withPresenceDue_capStep (s : State) (d : Option Nat) : s.CapStep { s with presenceDue := d } := {}

theorem execPresenceTimerExpiry_capacious (s : State) : s.Capacious (execPresenceTimerExpiry s) := by
  refine State.CapStep.capacious ?_
  split
  · exact ((s.reach_capStep _).trans (State.withPresenceDue_capStep _ _)).trans (State.announce_capStep _)
  · exact .refl s

theorem execAbsenceTimerExpiry_capacious (o : Station) (s : State) : s.Capacious (execAbsenceTimerExpiry o s) := by
  refine State.CapStep.capacious ?_
  split
  · dsimp only
    split
    · exact (((s.reach_capStep _).trans (State.setRecord_capStep _ _ _)).trans (State.emit_capStep _ _)).trans
        (State.reportAbsence_capStep _ _)
    · exact .refl s
  · exact .refl s

theorem execSubscriberExpiry_capacious (n : SourceNo) (o : Station) (s : State) :
    s.Capacious (execSubscriberExpiry n o s) := by
  refine State.CapStep.capacious ?_
  split
  · exact (s.reach_capStep _).trans (State.setSend_capStep _ _ _)
  · exact .refl s

theorem execJoinRefreshExpiry_capacious (k : Fin 32) (s : State) : s.Capacious (execJoinRefreshExpiry k s) := by
  refine State.CapStep.capacious ?_
  split
  · exact .refl s
  · split
    · exact (s.reach_capStep _).trans (State.handJoin_capStep _ _)
    · exact .refl s

/-! ### Copies -/

/-- A copy that may be taken keeps the capacities if its owner does. -/
theorem State.copy_capacious (s : State) (c : Prop) [Decidable c] (i : Instr) (good : Bool) (owner : State → State)
    (hown : ∀ u : State, u.CapStep (owner u)) : s.Capacious (.next (if c then s.handOn i good owner else s)) :=
  (State.ite_capStep (s.handOn_capStep i good owner hown) (.refl s)).capacious

/-- Every command completes and keeps every capacity. -/
theorem exec_capacious (c : Instr) (s : State) : s.Capacious (exec c s) := by
  cases c with
  | deviceReset => exact (s.resetFrom_capStep _ _ _ _).capacious
  | configure args => exact execConfigure_capacious args s
  | keyDown args => exact execKeyDown_capacious args s
  | keyUp args => exact execKeyUp_capacious args s
  | setRoute args => exact execSetRoute_capacious args s
  | fieldReset args => exact execFieldReset_capacious args s
  | readRoutes args => exact (s.read_capStep _ _ _ _).capacious
  | readOutTalk args => exact (s.read_capStep _ _ _ _).capacious
  | readInTalks args => exact (s.read_capStep _ _ _ _).capacious
  | readFeed args => exact (s.read_capStep _ _ _ _).capacious
  | readField args => exact (s.read_capStep _ _ _ _).capacious
  | readListen args => exact (s.read_capStep _ _ _ _).capacious
  | readSend args => exact (s.read_capStep _ _ _ _).capacious
  | readRoster args => exact execReadRoster_capacious args s
  | readCounters args => exact execReadCounters_capacious args s
  | nextEvent args => exact execNextEvent_capacious args s
  | frameAbort received => exact execFrameAbort_capacious received s
  | localSample x => exact execLocalSample_capacious x s
  | mixPassEnd => exact s.endPass_capStep.capacious
  | inboundSampleMoment k => exact execInboundSampleMoment_capacious k s
  | outboundWordRequest k => exact execOutboundWordRequest_capacious k s
  | trainWord k => exact execTrainWord_capacious k s
  | codeWord k x => exact execCodeWord_capacious k x s
  | sampleWord k x => exact execSampleWord_capacious k x s
  | talkOnWord k => exact execTalkOnWord_capacious k s
  | talkOffWord k => exact execTalkOffWord_capacious k s
  | endWord k => exact execEndWord_capacious k s
  | idleWord k i => exact execIdleWord_capacious k i s
  | gapTimerExpiry k => exact (s.portTimer_capStep _ _ _ _ _).capacious
  | codeTimerExpiry k => exact (s.portTimer_capStep _ _ _ _ _).capacious
  | linkSilenceExpiry k => exact (s.portTimer_capStep _ _ _ _ _).capacious
  | holdoffExpiry k => exact (s.portTimer_capStep _ _ _ _ _).capacious
  | alignmentLoss => exact s.loseAlignment_capStep.capacious
  | alignmentRegained =>
    refine (State.ite_capStep (.refl s) ?_).capacious
    exact s.setRing_le_capStep _ le_rfl
  | ringDown => exact execRingDown_capacious s
  | ringUp => exact execRingUp_capacious s
  | messageHeader w => exact (s.dataWord_capStep w).capacious
  | messageCutShort b =>
    exact (State.ite_capStep (State.ite_capStep s.idleSymbol_capStep s.loseAlignment_capStep) (.refl s)).capacious
  | burst g o i c q b => exact s.copy_capacious _ _ _ _ fun u => u.takeBurst_capStep _ _ _ _
  | presence g o t h q l d => exact s.copy_capacious _ _ _ _ fun u => u.takePresence_capStep _ _ _ _ _
  | presenceCheckCopy g q =>
    exact s.copy_capacious _ _ _ _ fun u => State.ite_capStep (.refl u) (u.duplicate_capStep _)
  | join g o t i c =>
    exact s.copy_capacious _ _ _ _ fun u => u.dispatchOwn_capStep _ _ fun v => v.takeJoin_capStep _ _ _
  | leave g o t i => exact s.copy_capacious _ _ _ _ fun u => u.dispatchOwn_capStep _ _ fun v => v.takeLeave_capStep _ _
  | talk g o t n src c f k v => exact s.copy_capacious _ _ _ _ fun u => u.takeTalk_capStep _ _ _ _
  | talkEnd g o t n => exact s.copy_capacious _ _ _ _ fun u => u.takeTalkEnd_capStep _ _
  | talkState g o t n m st re =>
    exact s.copy_capacious _ _ _ _ fun u => u.dispatchOwn_capStep _ _ fun v => v.takeTalkState_capStep _ _ _ _ _
  | lapseTimerExpiry o n m => exact execLapseTimerExpiry_capacious o n m s
  | refreshTimerExpiry n => exact execRefreshTimerExpiry_capacious n s
  | unansweredTimerExpiry n => exact execUnansweredTimerExpiry_capacious n s
  | presenceTimerExpiry => exact execPresenceTimerExpiry_capacious s
  | absenceTimerExpiry o => exact execAbsenceTimerExpiry_capacious o s
  | subscriberExpiry n o => exact execSubscriberExpiry_capacious n o s
  | joinRefreshExpiry k => exact execJoinRefreshExpiry_capacious k s
  | insertionStart => exact execInsertionStart_capacious s
  | insertionEnd => exact execInsertionEnd_capacious s
  | insertionBufferEmpty => exact (State.ite_capStep (s.setRing_le_capStep _ (Nat.zero_le _)) (.refl s)).capacious
  | ringInIdleSymbol => exact s.idleSymbol_capStep.capacious
  | messageWordArrival w => exact (s.dataWord_capStep w).capacious

theorem State.withPending_capStep (s : State) (l : List Instr) : s.CapStep { s with pending := l } := {}

/-- Every step keeps every capacity: an idle step lets a reference count pass, any other takes a command. -/
theorem step_capStep {s t : State} (h : step s = .next t) : s.CapStep t := by
  unfold step at h
  split at h
  case h_1 =>
    cases h
    exact s.reach_capStep _
  case h_2 c rest _ =>
    obtain ⟨u, hu, hcap⟩ := exec_capacious c { s with pending := rest }
    rw [hu] at h
    cases h
    exact (s.withPending_capStep rest).trans hcap

end Sys2Proof.Machine

namespace Sys2Proof.Proofs

open Sys2Proof.Machine

/-- Settles O59: each operation of the model keeps the eleven capacities, so a step, which is one command or one count of the reference, keeps them. -/
theorem stepKeepsCapacities : Obligations.StepKeepsCapacities := by
  intro s t h
  have hcap := step_capStep h
  exact ⟨hcap.events, hcap.queues, hcap.quiet, hcap.buffer, hcap.portBuffers, hcap.counters, hcap.gains, hcap.windows,
    hcap.routes, hcap.talks, hcap.replies⟩

end Sys2Proof.Proofs

/-!
SUPPORT. The listen table as a map from remote sources to entries: what each telling does to it (R13 to R15, R144 to
R146), and that telling it of the sources a request touched makes it follow the route table again (R14).
-/

namespace Sys2Proof.Machine

/-! ### The entry of a source -/

theorem State.findListen_some {s : State} {r : Remote} {k : Fin 32} (h : s.findListen r = some k) :
    ∃ e, s.listens[k] = some e ∧ e.source = r := by
  have hk := List.find?_some h
  cases he : s.listens[k] with
  | none => simp [he] at hk
  | some e => exact ⟨e, rfl, by simpa [he] using hk⟩

theorem State.findListen_eq_none_iff {s : State} {r : Remote} :
    s.findListen r = none ↔ ∀ (k : Fin 32) (e : ListenEntry), s.listens[k] = some e → e.source ≠ r := by
  unfold State.findListen
  rw [List.find?_eq_none]
  constructor
  · intro h k e he heq
    exact h k (List.mem_finRange k) (by rw [he, ← heq]; simp)
  · intro h k _ hk
    cases he : s.listens[k] with
    | none => simp [he] at hk
    | some e => exact h k e he (by simpa [he] using hk)

/-- Each remote source has at most one listen entry (R144). -/
def State.OneEach (s : State) : Prop :=
  ∀ (i j : Fin 32) (e x : ListenEntry), s.listens[i] = some e → s.listens[j] = some x → e.source = x.source → i = j

theorem State.findListen_of_oneEach {s : State} (h : s.OneEach) {k : Fin 32} {e : ListenEntry} (he : s.listens[k] = some e) :
    s.findListen e.source = some k := by
  cases hf : s.findListen e.source with
  | none => exact absurd rfl (State.findListen_eq_none_iff.1 hf k e he)
  | some j =>
    obtain ⟨x, hx, hsource⟩ := State.findListen_some hf
    rw [h j k x e hx he hsource]

theorem State.oneEach_iff {s : State} :
    s.OneEach ↔ ∀ (k : Fin 32) (e : ListenEntry), s.listens[k] = some e → s.findListen e.source = some k := by
  constructor
  · exact fun h k e he => State.findListen_of_oneEach h he
  · intro h i j e x he hx hsource
    have hi := h i e he
    rw [hsource, h j x hx] at hi
    exact (Option.some.inj hi).symm

/-- The listen entry of a remote source. -/
def State.entryOf (s : State) (r : Remote) : Option ListenEntry := (s.findListen r).bind fun k => s.listens[k]

theorem State.entryOf_eq_none_iff {s : State} {r : Remote} : s.entryOf r = none ↔ s.findListen r = none := by
  unfold State.entryOf
  cases h : s.findListen r with
  | none => exact iff_of_true rfl rfl
  | some k =>
    obtain ⟨e, he, -⟩ := State.findListen_some h
    rw [Option.bind_some, he]
    exact iff_of_false nofun nofun

theorem State.entryOf_eq_some_iff {s : State} (h : s.OneEach) {r : Remote} {e : ListenEntry} :
    s.entryOf r = some e ↔ ∃ k : Fin 32, s.listens[k] = some e ∧ e.source = r := by
  unfold State.entryOf
  constructor
  · intro hr
    obtain ⟨k, hk, he⟩ := Option.bind_eq_some_iff.1 hr
    obtain ⟨x, hx, hsource⟩ := State.findListen_some hk
    rw [hx] at he
    cases he
    exact ⟨k, hx, hsource⟩
  · rintro ⟨k, he, rfl⟩
    rw [State.findListen_of_oneEach h he]
    exact he

/-- Two tables with the same entries at the same places. -/
theorem State.findListen_congr {s t : State} (h : t.listens = s.listens) (r : Remote) : t.findListen r = s.findListen r := by
  unfold State.findListen
  rw [h]

theorem State.entryOf_congr {s t : State} (h : t.listens = s.listens) (r : Remote) : t.entryOf r = s.entryOf r := by
  unfold State.entryOf
  rw [State.findListen_congr h, h]

theorem State.OneEach.congr {s t : State} (hs : s.OneEach) (h : t.listens = s.listens) : t.OneEach := by
  unfold State.OneEach
  rw [h]
  exact hs

@[simp] theorem State.hand_listens (s : State) (n : Note) : (s.hand n).listens = s.listens := by
  rcases s.hand_cases n with ⟨-, -, h⟩ | ⟨-, -, h⟩ | ⟨-, h⟩ <;> rw [h]
  rfl

/-! ### One place of the table changes -/

/-- The place of an entry takes another entry of the same source, or an empty place an entry of a source that has none. -/
theorem State.OneEach.setListen_some {s : State} (h : s.OneEach) {k : Fin 32} {x : ListenEntry}
    (hk : ∀ (j : Fin 32) (e : ListenEntry), s.listens[j] = some e → e.source = x.source → j = k) :
    (s.setListen k (some x)).OneEach := by
  intro i j e y he hy hsource
  rw [State.setListen_listens, vector_set_getElem] at he hy
  split at he
  case isTrue hi =>
    cases he
    split at hy
    case isTrue hj => exact hi.symm.trans hj
    case isFalse => exact hi.symm.trans (hk j y hy hsource.symm).symm
  case isFalse =>
    split at hy
    case isTrue hj =>
      cases hy
      exact (hk i e he hsource).trans hj
    case isFalse => exact h i j e y he hy hsource

theorem State.OneEach.setListen_none {s : State} (h : s.OneEach) (k : Fin 32) : (s.setListen k none).OneEach := by
  intro i j e y he hy
  rw [State.setListen_listens, vector_set_getElem] at he hy
  split at he
  case isTrue => cases he
  case isFalse =>
    split at hy
    case isTrue => cases hy
    case isFalse => exact h i j e y he hy

theorem State.entryOf_setListen_self {s : State} {k : Fin 32} {x : ListenEntry}
    (h : (s.setListen k (some x)).OneEach) : (s.setListen k (some x)).entryOf x.source = some x :=
  (State.entryOf_eq_some_iff h).2 ⟨k, by rw [State.setListen_listens, vector_set_getElem_self], rfl⟩

/-- The entries of other sources than those at the changed place stay. -/
theorem State.entryOf_setListen_of_ne {s : State} (h : s.OneEach) {k : Fin 32} {o : Option ListenEntry}
    (ho : (s.setListen k o).OneEach) {r : Remote} (hold : ∀ e, s.listens[k] = some e → e.source ≠ r)
    (hnew : ∀ e ∈ o, e.source ≠ r) : (s.setListen k o).entryOf r = s.entryOf r := by
  refine Option.ext fun e => ?_
  rw [State.entryOf_eq_some_iff h, State.entryOf_eq_some_iff ho]
  constructor
  · rintro ⟨j, hj, hr⟩
    rw [State.setListen_listens, vector_set_getElem] at hj
    split at hj
    case isTrue => exact absurd hr (hnew e hj)
    case isFalse => exact ⟨j, hj, hr⟩
  · rintro ⟨j, hj, hr⟩
    refine ⟨j, ?_, hr⟩
    rw [State.setListen_listens, vector_set_getElem, if_neg]
    · exact hj
    · rintro rfl
      exact hold e hj hr

/-- A place of the listen table is free (R145). -/
def State.HasFree (s : State) : Prop := ∃ k : Fin 32, s.listens[k] = none

theorem State.freeListen_some {s : State} {k : Fin 32} (h : s.freeListen = some k) : s.listens[k] = none :=
  Option.isNone_iff_eq_none.1 (List.find?_some (p := fun k : Fin 32 => s.listens[k].isNone) h)

theorem State.HasFree.freeListen {s : State} (h : s.HasFree) : ∃ k, s.freeListen = some k := by
  obtain ⟨k, hk⟩ := h
  exact Option.isSome_iff_exists.1 (List.find?_isSome.2 ⟨k, List.mem_finRange k, by simp [hk]⟩)

theorem State.hasFree_of_listenCount {s : State} (h : s.listenCount ≠ 32) : s.HasFree := by
  by_contra hfull
  refine h ?_
  have hall : ∀ k ∈ List.finRange 32, s.listens[k].isSome = true := fun k _ =>
    Option.isSome_iff_ne_none.2 fun hk => hfull ⟨k, hk⟩
  rw [State.listenCount, List.countP_eq_length.2 hall, List.length_finRange]

/-! ### What one telling does -/

/-- Only the entries of the source `r` differ. -/
structure State.TellStep (s t : State) (r : Remote) : Prop where
  routes : t.routes = s.routes
  oneEach : t.OneEach
  others : ∀ q, q ≠ r → t.entryOf q = s.entryOf q

theorem State.handJoin_tellStep {s : State} (h : s.OneEach) {k : Fin 32} {e : ListenEntry} (he : s.listens[k] = some e) :
    s.TellStep (s.handJoin k) e.source ∧ ∃ x, (s.handJoin k).entryOf e.source = some x ∧ x.refCount = e.refCount := by
  have hsame : ∀ (j : Fin 32) (x : ListenEntry), s.listens[j] = some x → x.source = e.source → j = k :=
    fun j x hx => h j k x e hx he
  have hone := h.setListen_some (x := { e with lastJoin := some s.clock.now }) hsame
  have heq : (s.handJoin k).listens = (s.setListen k (some { e with lastJoin := some s.clock.now })).listens := by
    unfold State.handJoin
    rw [he]
    exact State.hand_listens _ _
  refine ⟨⟨(s.handJoin_listenStep k).routes, hone.congr heq, fun q hq => ?_⟩, ⟨{ e with lastJoin := some s.clock.now }, ?_, rfl⟩⟩
  · rw [State.entryOf_congr heq]
    refine State.entryOf_setListen_of_ne h hone (fun x hx => ?_) fun x hx => ?_
    · rw [he] at hx
      cases hx
      exact hq.symm
    · cases hx
      exact hq.symm
  · rw [State.entryOf_congr heq]
    exact State.entryOf_setListen_self hone

theorem State.updateListen_tellStep {s : State} (h : s.OneEach) {k : Fin 32} {e : ListenEntry} (he : s.listens[k] = some e)
    (n : Nat) (c : Cls) : s.TellStep (s.updateListen k n c) e.source ∧
      ∃ x, (s.updateListen k n c).entryOf e.source = some x ∧ x.refCount = n := by
  have hsame : ∀ (j : Fin 32) (x : ListenEntry), s.listens[j] = some x → x.source = e.source → j = k :=
    fun j x hx => h j k x e hx he
  have hone := h.setListen_some (x := { e with refCount := n, cls := c }) hsame
  have hkept : s.TellStep (s.setListen k (some { e with refCount := n, cls := c })) e.source := by
    refine ⟨rfl, hone, fun q hq => State.entryOf_setListen_of_ne h hone (fun x hx => ?_) fun x hx => ?_⟩
    · rw [he] at hx
      cases hx
      exact hq.symm
    · cases hx
      exact hq.symm
  have hself := State.entryOf_setListen_self hone
  unfold State.updateListen
  rw [he]
  dsimp only
  split
  · exact ⟨hkept, _, hself, rfl⟩
  · have hplace : (s.setListen k (some { e with refCount := n, cls := c })).listens[k] =
        some { e with refCount := n, cls := c } := by rw [State.setListen_listens, vector_set_getElem_self]
    obtain ⟨hjoin, x, hx, hcount⟩ := State.handJoin_tellStep hone hplace
    exact ⟨⟨hjoin.routes, hjoin.oneEach, fun q hq => (hjoin.others q hq).trans (hkept.others q hq)⟩, x, hx, hcount⟩

theorem State.createListen_tellStep {s : State} (h : s.OneEach) {r : Remote} (hr : s.findListen r = none)
    (hfree : s.HasFree) (n : Nat) (c : Cls) : s.TellStep (s.createListen r n c) r ∧
      ∃ x, (s.createListen r n c).entryOf r = some x := by
  obtain ⟨k, hk⟩ := hfree.freeListen
  have hnone := State.freeListen_some hk
  have habsent := State.findListen_eq_none_iff.1 hr
  have hone := h.setListen_some (k := k) (x := ListenEntry.created r n c (!s.isPresent r.station))
    fun j e he hsource => absurd hsource (habsent j e he)
  have hmade : s.TellStep (s.setListen k (some (ListenEntry.created r n c (!s.isPresent r.station)))) r := by
    refine ⟨rfl, hone, fun q hq => State.entryOf_setListen_of_ne h hone (fun x hx => ?_) fun x hx => ?_⟩
    · rw [hnone] at hx
      cases hx
    · cases hx
      exact hq.symm
  have hself := State.entryOf_setListen_self hone
  unfold State.createListen
  rw [hk]
  dsimp only
  split
  · exact ⟨hmade, _, hself⟩
  · have hplace : (s.setListen k (some (ListenEntry.created r n c (!s.isPresent r.station)))).listens[k] =
        some (ListenEntry.created r n c (!s.isPresent r.station)) := by rw [State.setListen_listens, vector_set_getElem_self]
    obtain ⟨hjoin, x, hx, -⟩ := State.handJoin_tellStep hone hplace
    exact ⟨⟨hjoin.routes, hjoin.oneEach, fun q hq => (hjoin.others q hq).trans (hmade.others q hq)⟩, x, hx⟩

theorem State.releaseListen_tellStep {s : State} (h : s.OneEach) {k : Fin 32} {e : ListenEntry} (he : s.listens[k] = some e) :
    s.TellStep (s.releaseListen k) e.source ∧ (s.releaseListen k).entryOf e.source = none ∧ (s.releaseListen k).HasFree := by
  have hone := h.setListen_none k
  have heq : (s.releaseListen k).listens = (s.setListen k none).listens := by
    unfold State.releaseListen
    rw [he]
    exact State.hand_listens _ _
  have hplace : (s.setListen k none).listens[k] = none := by rw [State.setListen_listens, vector_set_getElem_self]
  refine ⟨⟨(s.releaseListen_listenStep k).routes, hone.congr heq, fun q hq => ?_⟩, ?_, ⟨k, by rw [heq]; exact hplace⟩⟩
  · rw [State.entryOf_congr heq]
    refine State.entryOf_setListen_of_ne h hone (fun x hx => ?_) nofun
    rw [he] at hx
    cases hx
    exact hq.symm
  · rw [State.entryOf_congr heq, State.entryOf_eq_none_iff, State.findListen_eq_none_iff]
    intro j x hx hsource
    rw [State.setListen_listens, vector_set_getElem] at hx
    split at hx
    case isTrue => cases hx
    case isFalse hne => exact hne (h j k x e hx he hsource).symm

end Sys2Proof.Machine

/-!
SUPPORT. Telling the listen table of a list of sources in its three passes (releases, creations, then counts and classes;
log entry 15), and what it leaves of the listen table's agreement with the route table (R14).
-/

namespace Sys2Proof.Machine

/-! ### The route entries of a source -/

theorem entriesOf_length (v : Vector (List Route) 24) (r : Remote) : (entriesOf v r).length =
    ((List.finRange 24).map fun m => (v[m].filter fun e => e.input == .remote r).length).sum := List.length_flatMap ..

/-- How the number of a source's entries moves when one mix's entries are replaced. -/
theorem entriesOf_set_length (v : Vector (List Route) 24) (m : Mix) (l : List Route) (r : Remote) :
    (entriesOf (v.set m l) r).length + (v[m].filter fun e => e.input == .remote r).length =
      (entriesOf v r).length + (l.filter fun e => e.input == .remote r).length := by
  have hsum := sum_vector_set (fun l : List Route => (l.filter fun e => e.input == .remote r).length) v m l
  rw [entriesOf_length (v.set m l) r, entriesOf_length v r]
  exact hsum

theorem entriesOf_eq_nil_iff {v : Vector (List Route) 24} {r : Remote} :
    entriesOf v r = [] ↔ ∀ m : Mix, hasRoute v[m] (.remote r) = false := by
  simp only [entriesOf, List.flatMap_eq_nil_iff, List.mem_finRange, true_implies, List.filter_eq_nil_iff, hasRoute,
    List.any_eq_false]

/-! ### The passes over a list of sources -/

theorem State.TellStep.refl {s : State} (h : s.OneEach) (r : Remote) : s.TellStep s r := ⟨rfl, h, fun _ _ => rfl⟩

/-- A source without route entries loses its listen entry, any other keeps it (R13). -/
theorem State.tellRelease_spec {s : State} (h : s.OneEach) (r : Remote) :
    s.TellStep (s.tellRelease r) r ∧
    (s.tellRelease r).entryOf r = (if entriesOf s.routes r = [] then none else s.entryOf r) ∧
    (s.HasFree ∨ s.entryOf r ≠ none ∧ entriesOf s.routes r = [] → (s.tellRelease r).HasFree) := by
  unfold State.tellRelease
  cases hf : s.findListen r with
  | none =>
    have hnone := State.entryOf_eq_none_iff.2 hf
    refine ⟨.refl h r, ?_, fun hfree => hfree.resolve_right fun hr => hr.1 hnone⟩
    dsimp only
    rw [hnone, ite_self]
  | some k =>
    obtain ⟨e, he, rfl⟩ := State.findListen_some hf
    dsimp only
    split
    case isTrue hempty =>
      obtain ⟨hstep, hgone, hfree⟩ := State.releaseListen_tellStep h he
      exact ⟨hstep, hgone, fun _ => hfree⟩
    case isFalse hne => exact ⟨.refl h _, rfl, fun hfree => hfree.resolve_right fun hr => hne hr.2⟩

/-- A source needs a listen entry that it has not. -/
def State.Needs (s : State) (r : Remote) : Prop := s.entryOf r = none ∧ entriesOf s.routes r ≠ []

/-- A source with route entries and no listen entry gets one where a place is free, any other changes nothing (R13). -/
theorem State.tellCreate_spec {s : State} (h : s.OneEach) (r : Remote) :
    (s.Needs r → s.HasFree → s.TellStep (s.tellCreate r) r ∧ ∃ x, (s.tellCreate r).entryOf r = some x) ∧
    (¬ s.Needs r → s.tellCreate r = s) := by
  refine ⟨fun ⟨hnone, hne⟩ hfree => ?_, fun hnot => ?_⟩
  · have hf := State.entryOf_eq_none_iff.1 hnone
    unfold State.tellCreate
    cases hes : entriesOf s.routes r with
    | nil => exact absurd hes hne
    | cons e es =>
      rw [hf]
      exact State.createListen_tellStep h hf hfree _ _
  · unfold State.tellCreate
    cases hf : s.findListen r with
    | some k => rfl
    | none =>
      cases hes : entriesOf s.routes r with
      | nil => rfl
      | cons e es => exact absurd ⟨State.entryOf_eq_none_iff.2 hf, by rw [hes]; nofun⟩ hnot

/-- A listen entry takes the number of its source's route entries (R14). -/
theorem State.tellUpdate_spec {s : State} (h : s.OneEach) (r : Remote) :
    s.TellStep (s.tellUpdate r) r ∧ (s.entryOf r = none → (s.tellUpdate r).entryOf r = none) ∧
    (s.entryOf r ≠ none → ∃ x, (s.tellUpdate r).entryOf r = some x ∧ x.refCount = (entriesOf s.routes r).length) := by
  unfold State.tellUpdate
  cases hf : s.findListen r with
  | none =>
    have hnone := State.entryOf_eq_none_iff.2 hf
    exact ⟨.refl h r, id, fun hr => absurd hnone hr⟩
  | some k =>
    obtain ⟨e, he, rfl⟩ := State.findListen_some hf
    obtain ⟨hstep, hcount⟩ := State.updateListen_tellStep h he (entriesOf s.routes e.source).length
      (minClass ((entriesOf s.routes e.source).map Route.cls))
    have hsome : s.entryOf e.source ≠ none := fun hnone => by
      rw [State.entryOf_eq_none_iff, hf] at hnone
      cases hnone
    exact ⟨hstep, fun hnone => absurd hnone hsome, fun _ => hcount⟩

/-- Only the entries of the sources of a list differ. -/
structure State.TellSteps (s t : State) (rs : List Remote) : Prop where
  routes : t.routes = s.routes
  oneEach : t.OneEach
  others : ∀ q, q ∉ rs → t.entryOf q = s.entryOf q

theorem State.TellStep.cons {s t u : State} {r : Remote} {rs : List Remote} (h : s.TellStep t r) (g : t.TellSteps u rs) :
    s.TellSteps u (r :: rs) where
  routes := g.routes.trans h.routes
  oneEach := g.oneEach
  others q hq := by
    rw [List.mem_cons, not_or] at hq
    obtain ⟨hne, hrest⟩ := hq
    exact (g.others q hrest).trans (h.others q hne)

theorem State.releases_spec (rs : List Remote) : ∀ {s : State}, s.OneEach →
    s.TellSteps (rs.foldl State.tellRelease s) rs ∧
    (∀ r ∈ rs, (rs.foldl State.tellRelease s).entryOf r = if entriesOf s.routes r = [] then none else s.entryOf r) ∧
    (s.HasFree ∨ (∃ r ∈ rs, s.entryOf r ≠ none ∧ entriesOf s.routes r = []) →
      (rs.foldl State.tellRelease s).HasFree) := by
  induction rs with
  | nil => exact fun h => ⟨⟨rfl, h, fun _ _ => rfl⟩, nofun, fun hfree => hfree.resolve_right nofun⟩
  | cons r rs ih =>
    intro s h
    obtain ⟨hstep, hself, hfree⟩ := State.tellRelease_spec h r
    obtain ⟨hsteps, hselves, hfrees⟩ := ih hstep.oneEach
    have hsame : ∀ q, q ≠ r → (s.tellRelease r).entryOf q = s.entryOf q := hstep.others
    refine ⟨hstep.cons hsteps, fun q hq => ?_, fun hf => hfrees ?_⟩
    · rw [List.foldl_cons]
      by_cases hmem : q ∈ rs
      · rw [hselves q hmem, hstep.routes]
        by_cases hqr : q = r
        · rw [hqr, hself]
          split <;> rfl
        · rw [hsame q hqr]
      · rw [hsteps.others q hmem, (List.mem_cons.1 hq).resolve_right hmem, hself]
    · rcases hf with hs | ⟨q, hq, hentry, hempty⟩
      · exact .inl (hfree (.inl hs))
      · by_cases hqr : q = r
        · exact .inl (hfree (.inr (hqr ▸ ⟨hentry, hempty⟩)))
        · refine .inr ⟨q, (List.mem_cons.1 hq).resolve_left hqr, ?_, ?_⟩
          · rwa [hsame q hqr]
          · rwa [hstep.routes]

/-- At most one source of the list needs an entry, and a place is free for it. -/
def State.NeedsFit (s : State) (rs : List Remote) : Prop :=
  (∀ r ∈ rs, s.Needs r → s.HasFree) ∧ ∀ r ∈ rs, ∀ q ∈ rs, s.Needs r → s.Needs q → r = q

theorem State.creates_spec (rs : List Remote) : ∀ {s : State}, s.OneEach → s.NeedsFit rs →
    s.TellSteps (rs.foldl State.tellCreate s) rs ∧
    (∀ r ∈ rs, entriesOf s.routes r ≠ [] → (rs.foldl State.tellCreate s).entryOf r ≠ none) ∧
    (∀ r ∈ rs, entriesOf s.routes r = [] → (rs.foldl State.tellCreate s).entryOf r = s.entryOf r) := by
  induction rs with
  | nil => exact fun h _ => ⟨⟨rfl, h, fun _ _ => rfl⟩, nofun, nofun⟩
  | cons r rs ih =>
    intro s h ⟨hroom, honce⟩
    rw [List.foldl_cons]
    obtain ⟨hmakes, hkeeps⟩ := State.tellCreate_spec h r
    by_cases hneeds : s.Needs r
    · obtain ⟨hstep, x, hx⟩ := hmakes hneeds (hroom r List.mem_cons_self hneeds)
      have hsatisfied : ∀ q ∈ rs, ¬ (s.tellCreate r).Needs q := fun q hq ⟨hnone, hne⟩ => by
        rw [hstep.routes] at hne
        by_cases hqr : q = r
        · rw [hqr, hx] at hnone
          cases hnone
        · rw [hstep.others q hqr] at hnone
          exact hqr (honce r List.mem_cons_self q (List.mem_cons_of_mem _ hq) hneeds ⟨hnone, hne⟩).symm
      obtain ⟨hsteps, hmade, hkept⟩ := ih hstep.oneEach
        ⟨fun q hq hn => absurd hn (hsatisfied q hq), fun q hq p _ hn => absurd hn (hsatisfied q hq)⟩
      rw [hstep.routes] at hmade hkept
      refine ⟨hstep.cons hsteps, fun q hq hne => ?_, fun q hq hempty => ?_⟩
      · by_cases hmem : q ∈ rs
        · exact hmade q hmem hne
        · rw [hsteps.others q hmem, (List.mem_cons.1 hq).resolve_right hmem, hx]
          nofun
      · have hqr : q ≠ r := fun hqr => hneeds.2 (hqr ▸ hempty)
        rw [hkept q ((List.mem_cons.1 hq).resolve_left hqr) hempty, hstep.others q hqr]
    · rw [hkeeps hneeds]
      obtain ⟨hsteps, hmade, hkept⟩ := ih h
        ⟨fun q hq => hroom q (List.mem_cons_of_mem _ hq), fun q hq p hp =>
          honce q (List.mem_cons_of_mem _ hq) p (List.mem_cons_of_mem _ hp)⟩
      refine ⟨(State.TellStep.refl h r).cons hsteps, fun q hq hne => ?_, fun q hq hempty => ?_⟩
      · by_cases hmem : q ∈ rs
        · exact hmade q hmem hne
        · rw [hsteps.others q hmem, (List.mem_cons.1 hq).resolve_right hmem]
          rw [(List.mem_cons.1 hq).resolve_right hmem] at hne
          exact fun hnone => hneeds ⟨hnone, hne⟩
      · by_cases hmem : q ∈ rs
        · exact hkept q hmem hempty
        · exact hsteps.others q hmem

theorem State.updates_spec (rs : List Remote) : ∀ {s : State}, s.OneEach →
    s.TellSteps (rs.foldl State.tellUpdate s) rs ∧
    (∀ r ∈ rs, s.entryOf r = none → (rs.foldl State.tellUpdate s).entryOf r = none) ∧
    (∀ r ∈ rs, s.entryOf r ≠ none → ∃ x, (rs.foldl State.tellUpdate s).entryOf r = some x ∧
      x.refCount = (entriesOf s.routes r).length) := by
  induction rs with
  | nil => exact fun h => ⟨⟨rfl, h, fun _ _ => rfl⟩, nofun, nofun⟩
  | cons r rs ih =>
    intro s h
    rw [List.foldl_cons]
    obtain ⟨hstep, hself, hcount⟩ := State.tellUpdate_spec h r
    obtain ⟨hsteps, hnones, hcounts⟩ := ih hstep.oneEach
    rw [hstep.routes] at hcounts
    have hiff : ∀ q, (s.tellUpdate r).entryOf q = none ↔ s.entryOf q = none := fun q => by
      by_cases hqr : q = r
      · rw [hqr]
        refine ⟨fun hnone => by_contra fun hsome => ?_, hself⟩
        obtain ⟨x, hx, -⟩ := hcount hsome
        rw [hx] at hnone
        cases hnone
      · rw [hstep.others q hqr]
    refine ⟨hstep.cons hsteps, fun q hq hnone => ?_, fun q hq hsome => ?_⟩
    · by_cases hmem : q ∈ rs
      · exact hnones q hmem ((hiff q).2 hnone)
      · rw [hsteps.others q hmem]
        exact (hiff q).2 hnone
    · by_cases hmem : q ∈ rs
      · exact hcounts q hmem fun hnone => hsome ((hiff q).1 hnone)
      · have hqr := (List.mem_cons.1 hq).resolve_right hmem
        rw [hsteps.others q hmem, hqr]
        exact hcount (hqr ▸ hsome)

/-! ### The listen table follows the route table -/

/-- The listen entry of a source, or its absence, agrees with the source's route entries (R14). -/
def State.Agrees (s : State) (r : Remote) : Prop :=
  (entriesOf s.routes r = [] → s.entryOf r = none) ∧
  (entriesOf s.routes r ≠ [] → ∃ x, s.entryOf r = some x ∧ x.refCount = (entriesOf s.routes r).length)

theorem State.listensFollowRoutes_iff (s : State) : s.ListensFollowRoutes ↔ s.OneEach ∧ ∀ r, s.Agrees r := by
  constructor
  · rintro ⟨hentries, hheard⟩
    have hone : s.OneEach := State.oneEach_iff.2 fun k e he => (hentries k e he).2.2
    refine ⟨hone, fun r => ⟨fun hempty => ?_, fun hne => ?_⟩⟩
    · by_contra hsome
      obtain ⟨e, he⟩ := Option.ne_none_iff_exists'.1 hsome
      obtain ⟨k, hk, rfl⟩ := (State.entryOf_eq_some_iff hone).1 he
      obtain ⟨hcount, hpos, -⟩ := hentries k e hk
      rw [hcount, hempty] at hpos
      exact absurd hpos (Nat.lt_irrefl 0)
    · obtain ⟨k, hk⟩ := Option.ne_none_iff_exists'.1 (hheard r hne)
      obtain ⟨e, he, rfl⟩ := State.findListen_some hk
      exact ⟨e, (State.entryOf_eq_some_iff hone).2 ⟨k, he, rfl⟩, (hentries k e he).1⟩
  · rintro ⟨hone, hagrees⟩
    refine ⟨fun k e he => ?_, fun r hne hnone => ?_⟩
    · have hentry := (State.entryOf_eq_some_iff hone).2 ⟨k, he, rfl⟩
      obtain ⟨hempty, hcount⟩ := hagrees e.source
      by_cases hnil : entriesOf s.routes e.source = []
      · rw [hempty hnil] at hentry
        cases hentry
      · obtain ⟨x, hx, hrefs⟩ := hcount hnil
        rw [hentry] at hx
        cases hx
        exact ⟨hrefs, hrefs ▸ List.length_pos_of_ne_nil hnil, State.findListen_of_oneEach hone he⟩
    · obtain ⟨x, hx, -⟩ := (hagrees r).2 hne
      rw [State.entryOf_eq_none_iff.2 hnone] at hx
      cases hx

/-- Telling the listen table of a list of sources makes it agree with their route entries, and leaves the others (R13, R14). -/
theorem State.tellListens_agrees {s : State} (h : s.OneEach) {rs : List Remote}
    (hfit : (rs.foldl State.tellRelease s).NeedsFit rs) :
    (s.tellListens rs).OneEach ∧ (∀ r ∈ rs, (s.tellListens rs).Agrees r) ∧
      ∀ r, r ∉ rs → s.Agrees r → (s.tellListens rs).Agrees r := by
  obtain ⟨hreleased, hrelease, -⟩ := State.releases_spec rs h
  obtain ⟨hcreated, hcreate, hkept⟩ := State.creates_spec rs hreleased.oneEach hfit
  obtain ⟨hupdated, hnone, hcount⟩ := State.updates_spec rs hcreated.oneEach
  have hroutes : (s.tellListens rs).routes = s.routes := (s.tellListens_listenStep rs).routes
  rw [hreleased.routes] at hcreate hkept
  rw [hcreated.routes, hreleased.routes] at hcount
  refine ⟨hupdated.oneEach, fun r hr => ⟨fun hempty => ?_, fun hne => ?_⟩, fun r hr hagrees => ?_⟩
  · rw [hroutes] at hempty
    refine hnone r hr ?_
    rw [hkept r hr hempty, hrelease r hr, if_pos hempty]
  · rw [hroutes] at hne ⊢
    exact hcount r hr (hcreate r hr hne)
  · have hentry : (s.tellListens rs).entryOf r = s.entryOf r :=
      ((hupdated.others r hr).trans (hcreated.others r hr)).trans (hreleased.others r hr)
    unfold State.Agrees at hagrees ⊢
    rwa [hroutes, hentry]

end Sys2Proof.Machine

/-!
SUPPORT. The requests of the route table (SET-ROUTE, holds, releases, exchanges) keep mix-minus, the entries of a mix
within 12, and the listen table true to the route table (R3, R8 to R14).
-/

namespace Sys2Proof.Machine

/-! ### The entries of a mix for an input -/

/-- How many entries of a list are for an input. -/
def countInput (l : List Route) (i : Input) : Nat := (l.filter fun e => e.input == i).length

theorem hasRoute_iff_countInput_pos {l : List Route} {i : Input} : hasRoute l i = true ↔ 0 < countInput l i := by
  rw [countInput, List.length_filter_pos_iff, hasRoute, List.any_eq_true]

theorem hasRoute_eq_false_iff {l : List Route} {i : Input} : hasRoute l i = false ↔ countInput l i = 0 := by
  rw [← Bool.not_eq_true, hasRoute_iff_countInput_pos, Nat.not_lt, Nat.le_zero]

/-- A list of entries in the place of another, with no entry more and with a change of those for one input only. -/
structure Shrinks (old l : List Route) (i : Input) : Prop where
  length : l.length ≤ old.length
  others : ∀ j, j ≠ i → countInput l j = countInput old j
  own : countInput l i ≤ countInput old i

theorem Shrinks.countInput_le {old l : List Route} {i : Input} (h : Shrinks old l i) (j : Input) :
    countInput l j ≤ countInput old j := by
  by_cases hj : j = i
  · exact hj ▸ h.own
  · exact (h.others j hj).le

/-- Entries changed or removed, each of which keeps its input, and only those for `i`. -/
theorem shrinks_filterMap {g : Route → Option Route} {i : Input} (hother : ∀ e : Route, e.input ≠ i → g e = some e)
    (hinput : ∀ e x : Route, g e = some x → x.input = e.input) (l : List Route) : Shrinks l (l.filterMap g) i where
  length := List.length_filterMap_le ..
  others j hj := by
    induction l with
    | nil => rfl
    | cons e l ih =>
      cases hg : g e with
      | none =>
        have he : e.input = i := by_contra fun hne => by
          rw [hother e hne] at hg
          cases hg
        have hej : ¬ e.input = j := fun h => hj (h.symm.trans he)
        simp only [countInput] at ih ⊢
        rw [List.filterMap_cons_none hg, List.filter_cons_of_neg (by simpa using hej), ih]
      | some x =>
        have hx := hinput e x hg
        simp only [countInput] at ih ⊢
        rw [List.filterMap_cons_some hg, List.filter_cons, List.filter_cons, hx]
        split
        · rw [List.length_cons, List.length_cons, ih]
        · exact ih
  own := by
    induction l with
    | nil => exact le_rfl
    | cons e l ih =>
      simp only [countInput] at ih ⊢
      cases hg : g e with
      | none =>
        rw [List.filterMap_cons_none hg, List.filter_cons]
        split
        · exact Nat.le_succ_of_le ih
        · exact ih
      | some x =>
        rw [List.filterMap_cons_some hg, List.filter_cons, List.filter_cons, hinput e x hg]
        split
        · exact Nat.succ_le_succ ih
        · exact ih

@[simp] theorem Route.recompute_input (r : Route) (cfg : StationConfig) (cs : List Cls) :
    (r.recompute cfg cs).input = r.input := rfl

@[simp] theorem Route.recompute_holders (r : Route) (cfg : StationConfig) (cs : List Cls) :
    (r.recompute cfg cs).holders = r.holders := rfl

@[simp] theorem Route.recompute_fixedLevel (r : Route) (cfg : StationConfig) (cs : List Cls) :
    (r.recompute cfg cs).fixedLevel = r.fixedLevel := rfl

theorem shrinks_changeRoute {f : Route → Route} (hf : ∀ e : Route, (f e).input = e.input) (l : List Route) (i : Input) :
    Shrinks l (changeRoute l i f) i := by
  have h := shrinks_filterMap (g := fun r => some (if r.input = i then f r else r)) (i := i)
    (fun e he => by rw [if_neg he]) (fun e x hx => by
      cases hx
      split
      · exact hf e
      · rfl) l
  rwa [List.filterMap_eq_map'] at h

theorem shrinks_dropHolder (cfg : StationConfig) (left : List Cls) (l : List Route) (i : Input) :
    Shrinks l (dropHolder cfg left l i) i := by
  refine shrinks_filterMap (fun e he => if_neg he) (fun e x hx => ?_) l
  split at hx
  · split at hx
    · cases hx
    · cases hx
      rfl
  · cases hx
    rfl

theorem countInput_append_singleton (l : List Route) (x : Route) (j : Input) :
    countInput (l ++ [x]) j = countInput l j + if x.input = j then 1 else 0 := by
  simp only [countInput, List.filter_append, List.length_append]
  by_cases h : x.input = j <;> simp [h]

/-! ### The relation -/

/-- Mix-minus, the entries of a mix and the agreement of the two tables, where `s` has them, `t` has too. -/
structure State.RouteStep (s t : State) : Prop where
  mixMinus : s.MixMinus → t.MixMinus := by exact id
  bounded : s.RoutesBounded → t.RoutesBounded := by exact id
  listens : s.ListensFollowRoutes → t.ListensFollowRoutes := by exact id

theorem State.RouteStep.refl (s : State) : s.RouteStep s := {}

theorem State.RouteStep.trans {s t u : State} (h : s.RouteStep t) (g : t.RouteStep u) : s.RouteStep u where
  mixMinus := g.mixMinus ∘ h.mixMinus
  bounded := g.bounded ∘ h.bounded
  listens := g.listens ∘ h.listens

/-- Routes and listen entries as they were. -/
theorem State.RouteStep.of_eq {s t : State} (hroutes : t.routes = s.routes) (hlistens : t.listens = s.listens) :
    s.RouteStep t where
  mixMinus h := by
    unfold State.MixMinus at h ⊢
    rwa [hroutes]
  bounded h := by
    unfold State.RoutesBounded at h ⊢
    rwa [hroutes]
  listens h := by
    rw [State.listensFollowRoutes_iff] at h ⊢
    refine ⟨h.1.congr hlistens, fun r => ?_⟩
    unfold State.Agrees
    rw [hroutes, State.entryOf_congr hlistens]
    exact h.2 r

/-! ### The entries of one mix are replaced, and the listen table is told -/

/-- A source that had no route entry has one. -/
def Newly (v w : Vector (List Route) 24) (r : Remote) : Prop := entriesOf v r = [] ∧ entriesOf w r ≠ []

/-- The tables agree again where at most one source of the list is newly routed and its listen entry finds a place. -/
theorem State.setRoutes_tell_follows {s : State} (h : s.ListensFollowRoutes) {m : Mix} {l : List Route} {rs : List Remote}
    (hothers : ∀ r, r ∉ rs → (entriesOf (s.routes.set m l) r).length = (entriesOf s.routes r).length)
    (honce : ∀ r ∈ rs, ∀ q ∈ rs, Newly s.routes (s.routes.set m l) r → Newly s.routes (s.routes.set m l) q → r = q)
    (hroom : ∀ r ∈ rs, Newly s.routes (s.routes.set m l) r →
      s.HasFree ∨ ∃ q ∈ rs, entriesOf s.routes q ≠ [] ∧ entriesOf (s.routes.set m l) q = []) :
    ((s.setRoutes m l).tellListens rs).ListensFollowRoutes := by
  obtain ⟨hone, hagrees⟩ := s.listensFollowRoutes_iff.1 h
  have hone' : (s.setRoutes m l).OneEach := hone.congr rfl
  have hentry : ∀ r, (s.setRoutes m l).entryOf r = s.entryOf r := State.entryOf_congr rfl
  obtain ⟨hsteps, hreleased, hfrees⟩ := State.releases_spec rs hone'
  have hnewly : ∀ r ∈ rs, (rs.foldl State.tellRelease (s.setRoutes m l)).Needs r →
      Newly s.routes (s.routes.set m l) r := by
    rintro r hr ⟨hnone, hne⟩
    rw [hsteps.routes] at hne
    rw [hreleased r hr, if_neg hne, hentry] at hnone
    refine ⟨by_contra fun hold => ?_, hne⟩
    obtain ⟨x, hx, -⟩ := (hagrees r).2 hold
    rw [hnone] at hx
    cases hx
  have hfit : (rs.foldl State.tellRelease (s.setRoutes m l)).NeedsFit rs := by
    refine ⟨fun r hr hneeds => hfrees ?_, fun r hr q hq hnr hnq => honce r hr q hq (hnewly r hr hnr) (hnewly q hq hnq)⟩
    rcases hroom r hr (hnewly r hr hneeds) with hfree | ⟨q, hq, hold, hgone⟩
    · exact .inl hfree
    · refine .inr ⟨q, hq, fun hnone => ?_, hgone⟩
      obtain ⟨x, hx, -⟩ := (hagrees q).2 hold
      rw [hentry q, hx] at hnone
      cases hnone
  obtain ⟨hresult, htold, hkept⟩ := State.tellListens_agrees hone' hfit
  refine (State.listensFollowRoutes_iff _).2 ⟨hresult, fun r => ?_⟩
  by_cases hr : r ∈ rs
  · exact htold r hr
  · refine hkept r hr ?_
    have hlen := hothers r hr
    have hnil : entriesOf (s.routes.set m l) r = [] ↔ entriesOf s.routes r = [] := by
      rw [← List.length_eq_zero_iff, hlen, List.length_eq_zero_iff]
    obtain ⟨hempty, hcount⟩ := hagrees r
    unfold State.Agrees
    rw [hentry r, State.setRoutes_routes, hlen, hnil]
    exact ⟨hempty, fun hne => hcount (fun h => hne (hnil.2 h))⟩

theorem State.MixMinus.countInput_eq_zero {s : State} (h : s.MixMinus) {m : Mix} {k : PortNo} (hm : m = returnMix k) :
    countInput s.routes[m] (.field k) = 0 := by
  subst hm
  exact hasRoute_eq_false_iff.1 (h k)

/-- What mix-minus and the bound on a mix's entries ask of the list that replaces a mix's entries. -/
theorem State.setRoutes_tell_routeStep {s : State} {m : Mix} {l : List Route} {rs : List Remote}
    (hminus : s.MixMinus → ∀ k, m = returnMix k → hasRoute l (.field k) = false)
    (hbound : s.RoutesBounded → l.length ≤ 12)
    (hlistens : s.ListensFollowRoutes → ((s.setRoutes m l).tellListens rs).ListensFollowRoutes) :
    s.RouteStep ((s.setRoutes m l).tellListens rs) where
  mixMinus h k := by
    rw [(State.tellListens_listenStep _ _).routes, State.setRoutes_routes, vector_set_getElem]
    split
    case isTrue hm => exact hminus h k hm
    case isFalse => exact h k
  bounded h m' := by
    rw [(State.tellListens_listenStep _ _).routes, State.setRoutes_routes, vector_set_getElem]
    split
    case isTrue => exact hbound h
    case isFalse => exact h m'
  listens := hlistens

theorem Input.mem_remotes {i : Input} {r : Remote} : r ∈ i.remotes ↔ i = .remote r := by
  cases i with
  | loc | field => exact iff_of_false nofun nofun
  | remote q => simpa [Input.remotes] using eq_comm

/-- A source other than that of `i` has as many entries as before when only the entries for `i` change. -/
theorem entriesOf_set_length_of_countInput {v : Vector (List Route) 24} {m : Mix} {l : List Route} {r : Remote}
    (h : countInput l (.remote r) = countInput v[m] (.remote r)) :
    (entriesOf (v.set m l) r).length = (entriesOf v r).length := by
  have hsum := entriesOf_set_length v m l r
  simp only [countInput] at h
  omega

/-- A source's last entry cannot come by a list with no more entries for it. -/
theorem not_newly_of_countInput_le {v : Vector (List Route) 24} {m : Mix} {l : List Route} {r : Remote}
    (h : countInput l (.remote r) ≤ countInput v[m] (.remote r)) : ¬ Newly v (v.set m l) r := by
  rintro ⟨hold, hnew⟩
  have hsum := entriesOf_set_length v m l r
  have hpos := List.length_pos_of_ne_nil hnew
  simp only [countInput] at h
  rw [hold, List.length_nil] at hsum
  omega

/-- Entries for one input change or go, and the listen table is told of it (R7, R9, R11). -/
theorem State.shrink_routeStep {s : State} {m : Mix} {l : List Route} {i : Input} (h : Shrinks s.routes[m] l i) :
    s.RouteStep ((s.setRoutes m l).tellListens i.remotes) := by
  have hnot : ∀ r, ¬ Newly s.routes (s.routes.set m l) r := fun r => not_newly_of_countInput_le (h.countInput_le _)
  refine State.setRoutes_tell_routeStep (fun hminus k hm => ?_) (fun hbound => h.length.trans (hbound m)) fun hfollow => ?_
  · have hold := hminus.countInput_eq_zero hm
    exact hasRoute_eq_false_iff.2 (Nat.le_zero.1 (hold ▸ h.countInput_le _))
  · refine State.setRoutes_tell_follows hfollow (fun r hr => ?_) (fun r _ _ _ hr => absurd hr (hnot r)) fun r _ hr =>
      absurd hr (hnot r)
    exact entriesOf_set_length_of_countInput (h.others _ fun heq => hr (Input.mem_remotes.2 heq.symm))

theorem loops_eq_false_iff {m : Mix} {i : Input} : loops m i = false ↔ ∀ k, m = returnMix k → i ≠ .field k := by
  cases i with
  | loc | remote => exact iff_of_true rfl fun _ _ => nofun
  | field k =>
    simp only [loops, beq_eq_false_iff_ne, ne_eq, Input.field.injEq, returnMix, Fin.ext_iff]
    constructor
    · intro h j hj hkj
      omega
    · intro h hk
      exact h k (by simpa using hk) rfl

/-- A source that gets its first entry where the space tests pass finds a free listen entry (R8). -/
theorem State.hasFree_of_newly {s : State} (h : s.ListensFollowRoutes) {m : Mix} {r : Remote}
    {w : Vector (List Route) 24} (hspace : s.spaceTest m (.remote r) 0 = none) (hnew : Newly s.routes w r) : s.HasFree := by
  obtain ⟨-, -, hlisten⟩ := (s.spaceTest_eq_none_iff _ _ _).1 hspace
  rcases hlisten r rfl with hfound | hcount
  · have hnone := ((s.listensFollowRoutes_iff.1 h).2 r).1 hnew.1
    exact absurd (State.entryOf_eq_none_iff.1 hnone) hfound
  · exact State.hasFree_of_listenCount (Nat.ne_of_lt hcount)

/-- A last entry is created where the space tests pass, and the listen table is told of it (R8). -/
theorem State.append_routeStep {s : State} {m : Mix} {x : Route} (hloop : loops m x.input = false)
    (hspace : s.spaceTest m x.input 0 = none) :
    s.RouteStep ((s.setRoutes m (s.routes[m] ++ [x])).tellListens x.input.remotes) := by
  refine State.setRoutes_tell_routeStep (fun hminus k hm => ?_) (fun hbound => ?_) fun hfollow => ?_
  · have hold := hminus.countInput_eq_zero hm
    rw [hasRoute_eq_false_iff, countInput_append_singleton, hold, if_neg (loops_eq_false_iff.1 hloop k hm)]
  · obtain ⟨-, hmix, -⟩ := (s.spaceTest_eq_none_iff _ _ _).1 hspace
    rw [List.length_append]
    exact hmix
  · refine State.setRoutes_tell_follows hfollow (fun r hr => ?_) (fun r hr q hq _ _ => ?_) fun r hr hnew => .inl ?_
    · refine entriesOf_set_length_of_countInput ?_
      rw [countInput_append_singleton, if_neg fun heq => hr (Input.mem_remotes.2 heq), Nat.add_zero]
    · have hxr := Input.mem_remotes.1 hr
      have hxq := Input.mem_remotes.1 hq
      exact Input.remote.inj (hxr.symm.trans hxq)
    · rw [Input.mem_remotes.1 hr] at hspace
      exact State.hasFree_of_newly hfollow hspace hnew

/-- A holder more for an entry that may be held, and the listen table is told of it (R10). -/
theorem State.addHolder_routeStep {s : State} {m : Mix} {i : Input} (h : s.canHold m i 0 = true) (cfg : StationConfig)
    (cs : List Cls) : s.RouteStep ((s.setRoutes m (addHolder cfg cs s.routes[m] i)).tellListens i.remotes) := by
  obtain ⟨hloop, hspace⟩ := (s.canHold_iff m i 0).1 h
  cases hr : hasRoute s.routes[m] i with
  | true =>
    rw [addHolder_of_hasRoute hr]
    refine State.shrink_routeStep (shrinks_changeRoute ?_ _ i)
    exact fun _ => rfl
  | false =>
    rw [addHolder_of_not_hasRoute hr]
    exact State.append_routeStep (x := (⟨i, 0, 1, 0, 3⟩ : Route).recompute cfg cs) hloop
      (hspace.resolve_left (by rw [hr]; nofun))

theorem State.hold_routeStep {s t : State} {m : Mix} {a : SourceAddr} {c : Cls} (h : s.hold m a c = some t) :
    s.RouteStep t := by
  unfold State.hold at h
  split at h
  case h_1 => cases h
  case h_2 =>
    split at h
    case isFalse => cases h
    case isTrue hc =>
      cases h
      exact State.addHolder_routeStep hc _ _

theorem State.release_routeStep (s : State) (m : Mix) (a : SourceAddr) : s.RouteStep (s.release m a) := by
  unfold State.release
  split
  · exact .refl s
  · exact State.shrink_routeStep (shrinks_dropHolder ..)

/-! ### Exchanges -/

theorem addHolder_countInput_of_ne (cfg : StationConfig) (cs : List Cls) (l : List Route) {i j : Input} (h : j ≠ i) :
    countInput (addHolder cfg cs l i) j = countInput l j := by
  cases hr : hasRoute l i with
  | true =>
    rw [addHolder_of_hasRoute hr]
    refine (shrinks_changeRoute ?_ _ i).others j h
    exact fun _ => rfl
  | false =>
    rw [addHolder_of_not_hasRoute hr, countInput_append_singleton, if_neg (fun heq => h heq.symm), Nat.add_zero]

/-- Of two listen entries one of which has lost its route entries, that one counts as free within the exchange (R12). -/
theorem State.freedListens_pos {s : State} (h : s.freedListens ≠ 0) :
    ∃ (k : Fin 32) (e : ListenEntry), s.listens[k] = some e ∧ entriesOf s.routes e.source = [] := by
  obtain ⟨k, -, hk⟩ := List.countP_pos_iff.1 (Nat.pos_of_ne_zero h)
  cases he : s.listens[k] with
  | none =>
    rw [he] at hk
    cases hk
  | some e =>
    rw [he] at hk
    exact ⟨k, e, he, by simpa using hk⟩

/-- One source loses a holder and another gains one as one change, and the listen table is told of both (R12). -/
theorem State.exchange_pair_routeStep {s : State} {m : Mix} {vi i : Input} (hne : vi ≠ i) {left : List Route}
    (hleft : Shrinks s.routes[m] left vi) (cfg : StationConfig) (cs : List Cls)
    (h : (s.setRoutes m left).canHold m i (s.setRoutes m left).freedListens = true) :
    s.RouteStep ((s.setRoutes m (addHolder cfg cs left i)).tellListens (vi.remotes ++ i.remotes)) := by
  have hroutes : (s.setRoutes m left).routes[m] = left := vector_set_getElem_self ..
  have hsum := entriesOf_set_length s.routes m
  obtain ⟨hloop, hspace⟩ := (State.canHold_iff _ m i _).1 h
  have hfits := State.addHolder_fits h cfg cs
  rw [hroutes] at hspace hfits
  have hcount : ∀ j, j ≠ i → countInput (addHolder cfg cs left i) j ≤ countInput s.routes[m] j := fun j hj => by
    rw [addHolder_countInput_of_ne cfg cs left hj]
    exact hleft.countInput_le j
  refine State.setRoutes_tell_routeStep (fun hminus k hm => ?_) (fun hbound => ?_) fun hfollow => ?_
  · have hold := hminus.countInput_eq_zero hm
    exact hasRoute_eq_false_iff.2 (Nat.le_zero.1 (hold ▸ hcount _ (loops_eq_false_iff.1 hloop k hm).symm))
  · have hlen := hleft.length.trans (hbound m)
    cases hr : hasRoute left i with
    | true =>
      rw [addHolder_of_hasRoute hr, changeRoute_length]
      exact hlen
    | false =>
      obtain ⟨-, hmix, -⟩ := (State.spaceTest_eq_none_iff _ _ _ _).1 (hspace.resolve_left (by rw [hr]; nofun))
      rw [hroutes] at hmix
      rw [addHolder_of_not_hasRoute hr, List.length_append]
      exact hmix
  · obtain ⟨hone, hagrees⟩ := s.listensFollowRoutes_iff.1 hfollow
    have hnewly : ∀ r, Newly s.routes (s.routes.set m (addHolder cfg cs left i)) r → i = .remote r := fun r hr =>
      by_contra fun hir => not_newly_of_countInput_le (hcount _ (Ne.symm hir)) hr
    refine State.setRoutes_tell_follows hfollow (fun r hr => ?_) (fun r _ q _ hr hq => ?_) fun r _ hr => ?_
    · rw [List.mem_append, not_or, Input.mem_remotes, Input.mem_remotes] at hr
      refine entriesOf_set_length_of_countInput ?_
      rw [addHolder_countInput_of_ne cfg cs left (Ne.symm hr.2), hleft.others _ (Ne.symm hr.1)]
    · exact Input.remote.inj ((hnewly r hr).symm.trans (hnewly q hq))
    · have hir := hnewly r hr
      subst hir
      have hnone : hasRoute left (.remote r) = false := by
        rw [hasRoute_eq_false_iff, hleft.others _ hne.symm, ← hasRoute_eq_false_iff]
        exact entriesOf_eq_nil_iff.1 hr.1 m
      obtain ⟨-, -, hlisten⟩ := (State.spaceTest_eq_none_iff _ _ _ _).1 (hspace.resolve_left (by rw [hnone]; nofun))
      rcases hlisten r rfl with hfound | hfree
      · exact absurd (State.entryOf_eq_none_iff.1 ((hagrees r).1 hr.1)) hfound
      · by_cases hzero : (s.setRoutes m left).freedListens = 0
        · rw [hzero] at hfree
          exact .inl (State.hasFree_of_listenCount (s := s) (Nat.ne_of_lt hfree))
        · obtain ⟨k, e, he, hgone⟩ := State.freedListens_pos hzero
          have hentry : s.entryOf e.source ≠ none := by
            rw [(State.entryOf_eq_some_iff hone).2 ⟨k, he, rfl⟩]
            nofun
          have hold : entriesOf s.routes e.source ≠ [] := fun hnil => hentry ((hagrees e.source).1 hnil)
          have hvi : vi = .remote e.source := by_contra fun hne' => hold (by
            rw [← List.length_eq_zero_iff, ← entriesOf_set_length_of_countInput (hleft.others _ (Ne.symm hne')),
              List.length_eq_zero_iff]
            exact hgone)
          refine .inr ⟨e.source, List.mem_append_left _ (Input.mem_remotes.2 hvi), hold, ?_⟩
          have hadd := entriesOf_set_length_of_countInput (v := s.routes.set m left) (m := m)
            (l := addHolder cfg cs left (.remote r)) (r := e.source) (by
              rw [vector_set_getElem_self]
              exact addHolder_countInput_of_ne cfg cs left (hvi ▸ hne))
          rw [Vector.set_set] at hadd
          rw [← List.length_eq_zero_iff, hadd, List.length_eq_zero_iff]
          exact hgone

theorem State.setRoutes_setRoutes (s : State) (m : Mix) (l l' : List Route) :
    (s.setRoutes m l).setRoutes m l' = s.setRoutes m l' := by
  unfold State.setRoutes
  rw [Vector.set_set]

theorem State.exchange_routeStep {s t : State} {m : Mix} {v : InTalk} {rest : List InTalk} {a : SourceAddr} {c : Cls}
    (h : s.exchange m v rest a c = some t) : s.RouteStep t := by
  unfold State.exchange at h
  split at h
  case h_2 => cases h
  case h_1 vi i _ _ =>
    dsimp only at h
    split at h
    · cases h
      refine State.shrink_routeStep (shrinks_changeRoute ?_ _ i)
      exact fun _ => rfl
    case isFalse hne =>
      split at h
      case isFalse => cases h
      case isTrue hc =>
        cases h
        rw [State.setRoutes_setRoutes, State.setRoutes_routes, vector_set_getElem_self]
        exact State.exchange_pair_routeStep hne (shrinks_dropHolder ..) _ _ hc

/-! ### SET-ROUTE -/

theorem State.routeSet_routeStep (s : State) (r : RouteArgs) : s.RouteStep (s.routeSet r) :=
  State.shrink_routeStep (shrinks_changeRoute (fun e => by split <;> rfl) _ _)

theorem State.routeClear_routeStep (s : State) (r : RouteArgs) : s.RouteStep (s.routeClear r) := by
  refine State.shrink_routeStep (shrinks_filterMap (fun e he => if_neg he) (fun e x hx => ?_) _)
  split at hx
  · split at hx
    · cases hx
    · cases hx
      rfl
  · cases hx
    rfl

theorem State.routeCreate_routeStep (s : State) (r : RouteArgs) (hloop : loops r.mix r.input = false)
    (hspace : s.spaceTest r.mix r.input 0 = none) : s.RouteStep (s.routeCreate r) :=
  State.append_routeStep (x := ⟨r.input, r.level, 0, 0, s.cfg.fixedClass⟩) hloop hspace

end Sys2Proof.Machine

/-!
SUPPORT. A mix's holders count its GRANTED records: what a holder more, a holder less, and SET-ROUTE leave of it (R3).
-/

namespace Sys2Proof.Machine

/-- The inputs that a list of records holds at the station with number `own`. -/
def heldInputs (own : Option Station) (ts : List InTalk) : List (Option Input) := ts.map fun t => toInput own t.source

/-- What R3 asks of a mix's entries, with the inputs its GRANTED records hold. -/
structure EntriesHeld (rs : List Route) (is : List (Option Input)) : Prop where
  counts : ∀ r ∈ rs, r.holders = is.count (some r.input)
  kept : ∀ r ∈ rs, 0 < r.fixedLevel ∨ 0 < r.holders
  routed : ∀ o ∈ is, ∃ i, o = some i ∧ hasRoute rs i = true
  once : (rs.map Route.input).Nodup

theorem count_heldInputs (own : Option Station) (ts : List InTalk) (i : Input) :
    (heldInputs own ts).count (some i) = (ts.filter fun t => toInput own t.source == some i).length := by
  rw [heldInputs, List.count, List.countP_map, List.countP_eq_length_filter]
  rfl

theorem State.holdersCountGranted_iff (s : State) :
    s.HoldersCountGranted ↔ ∀ m : Mix, EntriesHeld s.routes[m] (heldInputs s.cfg.number s.talks[m].granted) := by
  refine forall_congr' fun m => ⟨fun ⟨hroutes, hrouted, honce⟩ => ?_, fun h => ⟨fun r hr => ?_, fun t ht => ?_, h.once⟩⟩
  · refine ⟨fun r hr => ?_, fun r hr => (hroutes r hr).2, fun o ho => ?_, honce⟩
    · rw [count_heldInputs]
      exact (hroutes r hr).1
    · obtain ⟨t, ht, rfl⟩ := List.mem_map.1 ho
      exact hrouted t ht
  · refine ⟨(h.counts r hr).trans ?_, h.kept r hr⟩
    rw [count_heldInputs]
    rfl
  · exact h.routed _ (List.mem_map_of_mem ht)

theorem hasRoute_iff_mem {rs : List Route} {i : Input} : hasRoute rs i = true ↔ i ∈ rs.map Route.input := by
  simp [hasRoute]

theorem hasRoute_eq_false_iff_not_mem {rs : List Route} {i : Input} :
    hasRoute rs i = false ↔ i ∉ rs.map Route.input := by
  rw [← hasRoute_iff_mem, Bool.not_eq_true]

theorem changeRoute_inputs {f : Route → Route} (hf : ∀ e, (f e).input = e.input) (rs : List Route) (i : Input) :
    (changeRoute rs i f).map Route.input = rs.map Route.input := by
  rw [changeRoute, List.map_map]
  refine List.map_congr_left fun r _ => ?_
  rw [Function.comp]
  split
  · exact hf r
  · rfl

/-- Entries that keep their inputs, some of them gone. -/
theorem filterMap_inputs_sublist {g : Route → Option Route} (hg : ∀ e x, g e = some x → x.input = e.input) (rs : List Route) :
    ((rs.filterMap g).map Route.input).Sublist (rs.map Route.input) := by
  induction rs with
  | nil => exact .slnil
  | cons e rs ih =>
    cases he : g e with
    | none =>
      rw [List.filterMap_cons_none he]
      exact ih.cons _
    | some x =>
      rw [List.filterMap_cons_some he, List.map_cons, List.map_cons, hg e x he]
      exact ih.cons_cons _

namespace EntriesHeld

variable {rs : List Route} {is is' : List (Option Input)} {i : Input}

theorem perm (h : EntriesHeld rs is) (hp : is.Perm is') : EntriesHeld rs is' where
  counts r hr := (h.counts r hr).trans (hp.count_eq _)
  kept := h.kept
  routed o ho := h.routed o (hp.mem_iff.2 ho)
  once := h.once

theorem nil : EntriesHeld [] [] := ⟨nofun, nofun, nofun, .nil⟩

theorem count_eq_zero (h : EntriesHeld rs is) (hr : hasRoute rs i = false) : is.count (some i) = 0 := by
  refine List.count_eq_zero.2 fun hmem => ?_
  obtain ⟨j, hj, hroute⟩ := h.routed _ hmem
  cases hj
  rw [hr] at hroute
  cases hroute

/-- Entries for one input change in their places and keep their holders and a reason to stay. -/
theorem change (h : EntriesHeld rs is) {f : Route → Route} (hinput : ∀ e, (f e).input = e.input)
    (hholders : ∀ e, (f e).holders = e.holders)
    (hkept : ∀ e, 0 < e.fixedLevel ∨ 0 < e.holders → 0 < (f e).fixedLevel ∨ 0 < (f e).holders) :
    EntriesHeld (changeRoute rs i f) is where
  counts r hr := by
    obtain ⟨e, he, rfl⟩ := List.mem_map.1 hr
    split
    · rw [hinput, hholders]
      exact h.counts e he
    · exact h.counts e he
  kept r hr := by
    obtain ⟨e, he, rfl⟩ := List.mem_map.1 hr
    split
    · exact hkept e (h.kept e he)
    · exact h.kept e he
  routed o ho := by
    obtain ⟨j, hj, hroute⟩ := h.routed o ho
    refine ⟨j, hj, ?_⟩
    rwa [hasRoute_iff_mem, changeRoute_inputs hinput, ← hasRoute_iff_mem]
  once := by
    rw [changeRoute_inputs hinput]
    exact h.once

/-- A last entry for a new input, with a reason to stay. -/
theorem append (h : EntriesHeld rs is) {x : Route} (hnew : hasRoute rs x.input = false) (hholders : x.holders = is'.count (some x.input))
    (hkept : 0 < x.fixedLevel ∨ 0 < x.holders) (hcount : ∀ j, j ≠ x.input → is'.count (some j) = is.count (some j))
    (hmem : ∀ o ∈ is', o ∈ is ∨ o = some x.input) : EntriesHeld (rs ++ [x]) is' where
  counts r hr := by
    rcases List.mem_append.1 hr with hold | hlast
    · have hne : r.input ≠ x.input := fun heq =>
        hasRoute_eq_false_iff_not_mem.1 hnew (heq ▸ List.mem_map_of_mem hold)
      rw [hcount _ hne]
      exact h.counts r hold
    · rw [List.mem_singleton.1 hlast]
      exact hholders
  kept r hr := by
    rcases List.mem_append.1 hr with hold | hlast
    · exact h.kept r hold
    · rw [List.mem_singleton.1 hlast]
      exact hkept
  routed o ho := by
    rcases hmem o ho with hold | hlast
    · obtain ⟨j, hj, hroute⟩ := h.routed o hold
      refine ⟨j, hj, ?_⟩
      rw [hasRoute_iff_mem, List.map_append]
      exact List.mem_append_left _ (hasRoute_iff_mem.1 hroute)
    · refine ⟨x.input, hlast, ?_⟩
      rw [hasRoute_iff_mem, List.map_append]
      exact List.mem_append_right _ (List.mem_singleton.2 rfl)
  once := by
    rw [List.map_append, List.map_singleton]
    exact (List.nodup_append_comm.2 (List.nodup_cons.2 ⟨hasRoute_eq_false_iff_not_mem.1 hnew, h.once⟩))

/-- One holder more (R10). -/
theorem addHolder (h : EntriesHeld rs is) (cfg : StationConfig) (cs : List Cls) :
    EntriesHeld (addHolder cfg cs rs i) (some i :: is) := by
  cases hr : hasRoute rs i with
  | true =>
    rw [addHolder_of_hasRoute hr]
    refine ⟨fun r hmem => ?_, fun r hmem => ?_, fun o ho => ?_, ?_⟩
    · obtain ⟨e, he, rfl⟩ := List.mem_map.1 hmem
      have hcount := h.counts e he
      split
      case isTrue heq =>
        subst heq
        rw [Route.recompute_holders, Route.recompute_input, hcount, List.count_cons_self]
      case isFalse hne =>
        rw [List.count_cons_of_ne fun heq => hne (Option.some.inj heq).symm, hcount]
    · obtain ⟨e, he, rfl⟩ := List.mem_map.1 hmem
      split
      · exact .inr (Nat.succ_pos _)
      · exact h.kept e he
    · have hinputs : ∀ j, hasRoute rs j = true → hasRoute (changeRoute rs i fun r =>
          ({ r with holders := r.holders + 1 } : Route).recompute cfg cs) j = true := fun j hj => by
        rw [hasRoute_iff_mem, changeRoute_inputs ?_, ← hasRoute_iff_mem]
        · exact hj
        · exact fun _ => rfl
      rcases List.mem_cons.1 ho with rfl | hold
      · exact ⟨i, rfl, hinputs i hr⟩
      · obtain ⟨j, hj, hroute⟩ := h.routed o hold
        exact ⟨j, hj, hinputs j hroute⟩
    · rw [changeRoute_inputs ?_]
      · exact h.once
      · exact fun _ => rfl
  | false =>
    rw [addHolder_of_not_hasRoute hr]
    refine h.append hr ?_ (.inr Nat.one_pos) (fun j hj => ?_) (fun o ho => (List.mem_cons.1 ho).symm)
    · rw [Route.recompute_input, Route.recompute_holders, List.count_cons_self, h.count_eq_zero hr]
    · exact List.count_cons_of_ne fun heq => hj (Option.some.inj heq).symm

/-- One holder less; an entry that nothing holds goes (R11). -/
theorem dropHolder (h : EntriesHeld rs (some i :: is)) (cfg : StationConfig) (left : List Cls) :
    EntriesHeld (dropHolder cfg left rs i) is := by
  have hone : ∀ e ∈ rs, e.input = i → e.holders = is.count (some i) + 1 := fun e he hi => by
    rw [h.counts e he, hi, List.count_cons_self]
  have hother : ∀ e ∈ rs, e.input ≠ i → e.holders = is.count (some e.input) := fun e he hi => by
    rw [h.counts e he, List.count_cons_of_ne fun heq => hi (Option.some.inj heq).symm]
  have hmem : ∀ r ∈ Machine.dropHolder cfg left rs i, ∃ e ∈ rs, r.input = e.input ∧
      (e.input = i → r.holders + 1 = e.holders ∧ (0 < r.fixedLevel ∨ 0 < r.holders)) ∧ (e.input ≠ i → r = e) := by
    intro r hr
    obtain ⟨e, he, hg⟩ := List.mem_filterMap.1 hr
    refine ⟨e, he, ?_⟩
    split at hg
    case isTrue hi =>
      split at hg
      case isTrue => cases hg
      case isFalse hkeep =>
        cases hg
        have hcount := hone e he hi
        refine ⟨rfl, fun _ => ⟨?_, ?_⟩, fun hne => absurd hi hne⟩
        · change e.holders - 1 + 1 = e.holders
          omega
        · change 0 < e.fixedLevel ∨ 0 < e.holders - 1
          omega
    case isFalse hi =>
      cases hg
      exact ⟨rfl, fun heq => absurd heq hi, fun _ => rfl⟩
  refine ⟨fun r hr => ?_, fun r hr => ?_, fun o ho => ?_, ?_⟩
  · obtain ⟨e, he, hinput, hown, hsame⟩ := hmem r hr
    by_cases hi : e.input = i
    · have hcount := hone e he hi
      have hless := (hown hi).1
      rw [hinput, hi]
      omega
    · rw [hsame hi]
      exact hother e he hi
  · obtain ⟨e, he, hinput, hown, hsame⟩ := hmem r hr
    by_cases hi : e.input = i
    · exact (hown hi).2
    · rw [hsame hi]
      exact h.kept e he
  · obtain ⟨j, rfl, hroute⟩ := h.routed o (List.mem_cons_of_mem _ ho)
    refine ⟨j, rfl, ?_⟩
    obtain ⟨e, he, hej⟩ := List.mem_map.1 (hasRoute_iff_mem.1 hroute)
    refine hasRoute_iff_mem.2 (List.mem_map.2 ?_)
    by_cases hi : e.input = i
    · have hpos : 0 < is.count (some i) := List.count_pos_iff.2 (hi ▸ hej ▸ ho)
      have hcount := hone e he hi
      exact ⟨({ e with holders := e.holders - 1 } : Route).recompute cfg left,
        List.mem_filterMap.2 ⟨e, he, by rw [if_pos hi, if_neg (by omega)]⟩, hej⟩
    · exact ⟨e, List.mem_filterMap.2 ⟨e, he, if_neg hi⟩, hej⟩
  · refine (filterMap_inputs_sublist (fun e x hx => ?_) rs).nodup h.once
    split at hx
    · split at hx
      · cases hx
      · cases hx
        rfl
    · cases hx
      rfl

end EntriesHeld

/-! ### The requests, at the entries of one mix -/

/-- SET-ROUTE clears a fixed part: an entry that nothing holds goes (R9). -/
theorem EntriesHeld.clear {rs : List Route} {is : List (Option Input)} (h : EntriesHeld rs is) (cfg : StationConfig) (cs : List Cls) (i : Input) :
    EntriesHeld (rs.filterMap fun e => if e.input = i then
      if e.holders = 0 then none else some (({ e with fixedLevel := 0 } : Route).recompute cfg cs) else some e) is := by
  have hinput : ∀ e x : Route, (if e.input = i then
      if e.holders = 0 then none else some (({ e with fixedLevel := 0 } : Route).recompute cfg cs) else some e) = some x →
      x.input = e.input ∧ x.holders = e.holders ∧ (0 < x.holders ∨ x = e) := by
    intro e x hx
    split at hx
    · split at hx
      · cases hx
      case isFalse hne =>
        cases hx
        exact ⟨rfl, rfl, .inl (Nat.pos_of_ne_zero hne)⟩
    · cases hx
      exact ⟨rfl, rfl, .inr rfl⟩
  refine ⟨fun r hr => ?_, fun r hr => ?_, fun o ho => ?_, ?_⟩
  · obtain ⟨e, he, hg⟩ := List.mem_filterMap.1 hr
    obtain ⟨hi, hh, -⟩ := hinput e r hg
    rw [hi, hh]
    exact h.counts e he
  · obtain ⟨e, he, hg⟩ := List.mem_filterMap.1 hr
    obtain ⟨-, -, hpos | rfl⟩ := hinput e r hg
    · exact .inr hpos
    · exact h.kept r he
  · obtain ⟨j, rfl, hroute⟩ := h.routed o ho
    obtain ⟨e, he, rfl⟩ := List.mem_map.1 (hasRoute_iff_mem.1 hroute)
    have hpos : e.holders ≠ 0 := by
      rw [h.counts e he]
      exact (List.count_pos_iff.2 ho).ne'
    refine ⟨e.input, rfl, hasRoute_iff_mem.2 (List.mem_map.2 ?_)⟩
    by_cases hi : e.input = i
    · exact ⟨({ e with fixedLevel := 0 } : Route).recompute cfg cs,
        List.mem_filterMap.2 ⟨e, he, by rw [if_pos hi, if_neg hpos]⟩, rfl⟩
    · exact ⟨e, List.mem_filterMap.2 ⟨e, he, if_neg hi⟩, rfl⟩
  · exact (filterMap_inputs_sublist (fun e x hx => (hinput e x hx).1) rs).nodup h.once

end Sys2Proof.Machine

/-!
SUPPORT. What the arbiter's operations keep: the replies, notes and events an answer makes; the tables true to each
other; the mixes an operation does not name (R3, R14, R48, R52, R63).
-/

namespace Sys2Proof.Machine

/-! ### Answers -/

/-- What of an outgoing talk record no reply changes (R78). -/
def OutTalk.standing (x : OutTalk) : OutTalk := { x with replies := [], overflow := 0, summary := .pending, heard := false }

/-- Replies in the outgoing talks, notes, counters and events, and nothing else, differ. -/
structure State.AnswerStep (s t : State) : Prop extends State.TalkStep s t where
  routes : t.routes = s.routes
  talks : t.talks = s.talks
  listens : t.listens = s.listens
  outs : ∀ n : TalkNo, t.outTalks[n].map OutTalk.standing = s.outTalks[n].map OutTalk.standing
  events : ∃ es : List Event, t.events = es.foldl EventQueue.push s.events

theorem exists_events_trans {p q r : EventQueue} (h : ∃ es : List Event, q = es.foldl EventQueue.push p)
    (g : ∃ es : List Event, r = es.foldl EventQueue.push q) : ∃ es : List Event, r = es.foldl EventQueue.push p := by
  obtain ⟨es, rfl⟩ := h
  obtain ⟨fs, rfl⟩ := g
  exact ⟨es ++ fs, by rw [List.foldl_append]⟩

theorem State.AnswerStep.refl (s : State) : s.AnswerStep s := ⟨.refl s, rfl, rfl, rfl, fun _ => rfl, [], rfl⟩

theorem State.AnswerStep.trans {s t u : State} (h : s.AnswerStep t) (g : t.AnswerStep u) : s.AnswerStep u where
  toTalkStep := h.toTalkStep.trans g.toTalkStep
  routes := g.routes.trans h.routes
  talks := g.talks.trans h.talks
  listens := g.listens.trans h.listens
  outs n := (g.outs n).trans (h.outs n)
  events := exists_events_trans h.events g.events

theorem foldl_answerStep {α : Type} (f : State → α → State) (hf : ∀ (s : State) (a : α), s.AnswerStep (f s a)) (l : List α) :
    ∀ s : State, s.AnswerStep (l.foldl f s) := by
  induction l with
  | nil => exact fun s => .refl s
  | cons a l ih => exact fun s => (hf s a).trans (ih (f s a))

theorem State.emit_answerStep (s : State) (e : Event) : s.AnswerStep (s.emit e) :=
  ⟨s.emit_talkStep e, rfl, rfl, rfl, fun _ => rfl, [e], rfl⟩

theorem State.count_answerStep (s : State) (f : Counters → Counters) : s.AnswerStep (s.count f) :=
  ⟨(s.count_listenStep f).toTalkStep, rfl, rfl, rfl, fun _ => rfl, [], rfl⟩

theorem State.hand_answerStep (s : State) (n : Note) : s.AnswerStep (s.hand n) := by
  have h := s.hand_listenStep n
  exact ⟨h.toTalkStep, h.routes, h.talks, s.hand_listens n, fun k => by rw [h.outTalks], [], h.events⟩

theorem State.setOut_answerStep (s : State) {n : TalkNo} {x y : OutTalk} (h : s.outTalks[n] = some x)
    (hxy : y.standing = x.standing) : s.AnswerStep (s.setOut n (some y)) where
  toTalkStep := s.setOut_talkStep _ _
  routes := rfl
  talks := rfl
  listens := rfl
  outs := by
    rw [State.setOut_outTalks]
    refine forall_vector_set (P := fun (k : TalkNo) (o : Option OutTalk) => o.map OutTalk.standing = s.outTalks[k].map OutTalk.standing)
      (fun _ => rfl) ?_
    rw [h, Option.map_some, Option.map_some, hxy]
  events := ⟨[], rfl⟩

theorem State.putSummed_answerStep (s : State) {n : TalkNo} {x y : OutTalk} (b : Summary) (h : s.outTalks[n] = some x)
    (hxy : y.standing = x.standing) : s.AnswerStep (s.putSummed n b y) := by
  have hset : s.AnswerStep (s.setOut n (some y.summed)) := s.setOut_answerStep h hxy
  unfold State.putSummed
  dsimp only
  split
  · exact hset
  · exact hset.trans (State.emit_answerStep _ _)

theorem OutTalk.addReply_standing (x : OutTalk) (r : Reply) : (x.addReply r).standing = x.standing := by
  unfold OutTalk.addReply
  split
  · rfl
  · split <;> rfl

theorem State.takeReply_answerStep (s : State) (n : TalkNo) (r : Reply) : s.AnswerStep (s.takeReply n r) := by
  unfold State.takeReply
  split
  · exact s.count_answerStep _
  case h_2 x hx =>
    split
    · exact s.putSummed_answerStep _ hx (x.addReply_standing r)
    · exact s.count_answerStep _

theorem State.dropReplies_answerStep (st : Station) (s : State) (n : TalkNo) : s.AnswerStep (State.dropReplies st s n) := by
  unfold State.dropReplies
  split
  · exact .refl s
  case h_2 hx => exact s.putSummed_answerStep _ hx rfl

theorem State.talkerAbsence_answerStep (s : State) (st : Station) : s.AnswerStep (s.talkerAbsence st) :=
  foldl_answerStep _ (State.dropReplies_answerStep st) _ s

theorem State.answer_answerStep (s : State) (o : Station) (n : TalkNo) (m : Fin 32) (a : TalkAnswer) (r : Reason) :
    s.AnswerStep (s.answer o n m a r) := by
  unfold State.answer
  split
  · exact s.takeReply_answerStep _ _
  · exact s.hand_answerStep _

theorem State.answerFor_answerStep (s : State) (m : Mix) (x : InTalk) (a : TalkAnswer) (r : Reason) :
    s.AnswerStep (s.answerFor m x a r) := s.answer_answerStep _ _ _ _ _

theorem State.incoming_answerStep (s : State) (m : Mix) (x : InTalk) (g : Bool) (c : Cause) :
    s.AnswerStep (s.incoming m x g c) := s.emit_answerStep _

theorem State.toRing_answerStep (s : State) (st : Station) (b : NoteBody) : s.AnswerStep (s.toRing st b) := by
  unfold State.toRing
  split
  · exact .refl s
  · exact s.hand_answerStep _

/-! ### The tables stay true to each other -/

/-- What every operation of the arbiter keeps, but for the slots and the keys, which each operation tells of itself. -/
structure State.ArbStep (s t : State) : Prop extends State.TalkStep s t where
  outs : ∀ n : TalkNo, t.outTalks[n].map OutTalk.standing = s.outTalks[n].map OutTalk.standing
  events : ∃ es : List Event, t.events = es.foldl EventQueue.push s.events
  tables : s.RouteStep t
  holders : s.HoldersCountGranted → t.HoldersCountGranted
  closed : ∀ m : Mix, s.talkDown m = true → s.talks[m] = ⟨[], []⟩ → t.talks[m] = ⟨[], []⟩

theorem State.talkDown_congr {s t : State} (h : t.ports = s.ports) (m : Mix) : t.talkDown m = s.talkDown m := by
  unfold State.talkDown
  rw [h]

theorem State.ArbStep.refl (s : State) : s.ArbStep s :=
  ⟨.refl s, fun _ => rfl, ⟨[], rfl⟩, .refl s, id, fun _ _ => id⟩

theorem State.ArbStep.trans {s t u : State} (h : s.ArbStep t) (g : t.ArbStep u) : s.ArbStep u where
  toTalkStep := h.toTalkStep.trans g.toTalkStep
  outs n := (g.outs n).trans (h.outs n)
  events := exists_events_trans h.events g.events
  tables := h.tables.trans g.tables
  holders := g.holders ∘ h.holders
  closed m hdown hempty := g.closed m ((State.talkDown_congr h.ports m).trans hdown) (h.closed m hdown hempty)

theorem foldl_arbStep {α : Type} (f : State → α → State) (hf : ∀ (s : State) (a : α), s.ArbStep (f s a)) (l : List α) :
    ∀ s : State, s.ArbStep (l.foldl f s) := by
  induction l with
  | nil => exact fun s => .refl s
  | cons a l ih => exact fun s => (hf s a).trans (ih (f s a))

/-- Holders count alike where the entries, the station's number and what the GRANTED records hold are alike. -/
theorem State.HoldersCountGranted.congr {s t : State} (h : s.HoldersCountGranted) (hroutes : t.routes = s.routes)
    (hcfg : t.cfg = s.cfg) (hheld : ∀ m : Mix, (heldInputs s.cfg.number s.talks[m].granted).Perm
      (heldInputs s.cfg.number t.talks[m].granted)) : t.HoldersCountGranted := by
  rw [State.holdersCountGranted_iff] at h ⊢
  intro m
  rw [hroutes, hcfg]
  exact (h m).perm (hheld m)

theorem State.AnswerStep.arbStep {s t : State} (h : s.AnswerStep t) : s.ArbStep t where
  toTalkStep := h.toTalkStep
  outs := h.outs
  events := h.events
  tables := .of_eq h.routes h.listens
  holders g := g.congr h.routes h.cfg fun m => by rw [h.talks]
  closed m _ g := by rw [h.talks, g]

/-- The other mixes keep their talks and their entries. -/
def State.Elsewhere (m : Mix) (s t : State) : Prop :=
  ∀ m' : Mix, m' ≠ m → t.talks[m'] = s.talks[m'] ∧ t.routes[m'] = s.routes[m']

theorem State.Elsewhere.trans {m : Mix} {s t u : State} (h : State.Elsewhere m s t) (g : State.Elsewhere m t u) :
    State.Elsewhere m s u := fun m' hm =>
  ⟨(g m' hm).1.trans (h m' hm).1, (g m' hm).2.trans (h m' hm).2⟩

theorem State.AnswerStep.elsewhere {s t : State} (h : s.AnswerStep t) (m : Mix) : State.Elsewhere m s t := fun m' _ => by
  rw [h.talks, h.routes]
  exact ⟨rfl, rfl⟩

/-- A change of the talks and of the entries of one mix. -/
theorem State.elsewhere_of_set {m : Mix} {s t : State} {x : MixTalks} {l : List Route} (htalks : t.talks = s.talks.set m x)
    (hroutes : t.routes = s.routes.set m l) : State.Elsewhere m s t := fun m' hm => by
  rw [htalks, hroutes, vector_set_getElem_ne _ _ (Ne.symm hm), vector_set_getElem_ne _ _ (Ne.symm hm)]
  exact ⟨rfl, rfl⟩

theorem State.setTalks_elsewhere (s : State) (m : Mix) (x : MixTalks) : State.Elsewhere m s (s.setTalks m x) := fun m' hm => by
  rw [State.setTalks_talks, vector_set_getElem_ne _ _ (Ne.symm hm)]
  exact ⟨rfl, rfl⟩

theorem State.setTalks_talks_self (s : State) (m : Mix) (x : MixTalks) : (s.setTalks m x).talks[m] = x :=
  vector_set_getElem_self ..

/-! ### Changes of the records of one mix -/

/-- The entries and the talks of one mix change together: where the entries of `m` stay true to the GRANTED records, and no
talk comes to a mix whose port admits none, the tables stay true to each other. -/
theorem State.arbStep_of_set {s t u : State} {m : Mix} {x : MixTalks} {l : List Route} (h : s.TalkStep t)
    (houts : t.outTalks = s.outTalks) (hevents : t.events = s.events) (htables : s.RouteStep t)
    (htalks : u.talks = s.talks.set m x) (hroutes : t.routes = s.routes.set m l)
    (hu : u = t.setTalks m x)
    (hheld : EntriesHeld s.routes[m] (heldInputs s.cfg.number s.talks[m].granted) →
      EntriesHeld l (heldInputs s.cfg.number x.granted))
    (hopen : s.talkDown m = true → s.talks[m] = ⟨[], []⟩ → x = ⟨[], []⟩) : s.ArbStep u where
  toTalkStep := by
    rw [hu]
    exact h.trans (t.setTalks_talkStep m x)
  outs n := by
    rw [hu, State.setTalks_outTalks, houts]
  events := ⟨[], by rw [hu, State.setTalks_events, hevents]; rfl⟩
  tables := by
    rw [hu]
    exact htables.trans (.of_eq rfl rfl)
  holders g := by
    rw [State.holdersCountGranted_iff] at g ⊢
    intro m'
    rw [htalks]
    have hr : u.routes = s.routes.set m l := by
      rw [hu]
      exact hroutes
    have hc : u.cfg = s.cfg := by
      rw [hu]
      exact h.cfg
    rw [hr, hc, vector_set_getElem, vector_set_getElem]
    split
    case isTrue heq => exact hheld (g m)
    case isFalse => exact g m'
  closed m' hdown hempty := by
    rw [htalks, vector_set_getElem]
    split
    case isTrue heq =>
      subst heq
      exact hopen hdown hempty
    case isFalse => exact hempty

/-- The talks of one mix change, and what its GRANTED records hold does not. -/
theorem State.setTalks_arbStep (s : State) (m : Mix) {x : MixTalks}
    (hheld : (heldInputs s.cfg.number s.talks[m].granted).Perm (heldInputs s.cfg.number x.granted))
    (hopen : s.talkDown m = true → s.talks[m] = ⟨[], []⟩ → x = ⟨[], []⟩) : s.ArbStep (s.setTalks m x) :=
  State.arbStep_of_set (l := s.routes[m]) (.refl s) rfl rfl (.refl s) rfl (by simp) rfl (fun h => h.perm hheld) hopen

/-- A record's hold succeeds and the record joins the GRANTED ones (R53, R58). -/
theorem State.hold_arbStep {s held : State} {m : Mix} {a : SourceAddr} {c : Cls} (h : s.hold m a c = some held) {r : InTalk}
    (hr : r.source = a) (ws : List InTalk) (hopen : s.talkDown m = true → s.talks[m] ≠ ⟨[], []⟩) :
    s.ArbStep (held.setTalks m ⟨s.talks[m].granted ++ [r], ws⟩) := by
  obtain ⟨hstep, htalks, houts, hevents, i, hi, -, hroutes⟩ := State.hold_spec h
  refine State.arbStep_of_set hstep houts hevents (State.hold_routeStep h) (by rw [State.setTalks_talks, htalks]) hroutes rfl
    (fun g => ?_) fun hdown hempty => absurd hempty (hopen hdown)
  have hinput : toInput s.cfg.number r.source = some i := by
    rw [hr]
    exact hi
  refine (g.addHolder (i := i) _ _).perm ?_
  rw [heldInputs, heldInputs, List.map_append, List.map_singleton, hinput]
  exact List.perm_append_comm (l₁ := [some i])

theorem heldInputs_perm {own : Option Station} {l l' : List InTalk} (h : l.Perm l') :
    (heldInputs own l).Perm (heldInputs own l') := h.map _

/-- A GRANTED record leaves the table and its hold is released (R58). -/
theorem State.release_arbStep (s : State) (m : Mix) {r : InTalk} (hr : r ∈ s.talks[m].granted) :
    s.ArbStep ((s.setTalks m { s.talks[m] with granted := s.talks[m].granted.erase r }).release m r.source) := by
  obtain ⟨hstep, htalks, houts, hevents, hroutes⟩ :=
    (s.setTalks m { s.talks[m] with granted := s.talks[m].granted.erase r }).release_spec m r.source
  have hfirst : s.TalkStep (s.setTalks m { s.talks[m] with granted := s.talks[m].granted.erase r }) :=
    s.setTalks_talkStep _ _
  have hperm : (heldInputs s.cfg.number s.talks[m].granted).Perm
      (toInput s.cfg.number r.source :: heldInputs s.cfg.number (s.talks[m].granted.erase r)) :=
    heldInputs_perm (List.perm_cons_erase hr)
  refine ⟨hfirst.trans hstep, fun n => by rw [houts]; rfl, ⟨[], hevents⟩,
    State.RouteStep.trans (t := s.setTalks m { s.talks[m] with granted := s.talks[m].granted.erase r }) (.of_eq rfl rfl)
      (State.release_routeStep _ _ _), fun g => ?_, fun m' hdown hempty => ?_⟩
  · rw [State.holdersCountGranted_iff] at g ⊢
    intro m'
    rw [htalks, hstep.cfg, hroutes, State.setTalks_talks, State.setTalks_cfg, State.setTalks_routes]
    have hm := g m
    obtain ⟨i, hi, -⟩ := hm.routed _ (List.mem_map_of_mem hr)
    have hinput : (s.setTalks m { s.talks[m] with granted := s.talks[m].granted.erase r }).input r.source = some i := hi
    rw [hinput]
    dsimp only
    by_cases heq : m = m'
    · subst heq
      rw [vector_set_getElem_self, vector_set_getElem_self]
      refine EntriesHeld.dropHolder (hm.perm ?_) _ _
      rw [hi] at hperm
      exact hperm
    · rw [vector_set_getElem_ne _ _ heq, vector_set_getElem_ne _ _ heq]
      exact g m'
  · rw [htalks, State.setTalks_talks, vector_set_getElem]
    split
    case isTrue heq =>
      subst heq
      rw [hempty] at hr
      cases hr
    case isFalse => exact hempty

end Sys2Proof.Machine

/-!
SUPPORT. The keys of the incoming talk records and the slots of a mix; removals and the filling of slots (R48, R49, R57
to R62).
-/

namespace Sys2Proof.Machine

/-! ### Keys and slots of one mix -/

/-- The key of a record within its mix (R48). -/
def InTalk.key (t : InTalk) : Station × TalkNo := (t.talker, t.number)

/-- The keys of the records of a mix, the GRANTED ones first. -/
def MixTalks.keys (x : MixTalks) : List (Station × TalkNo) := (x.granted ++ x.waiting).map InTalk.key

/-- What R49 asks of the slots of a mix. -/
def MixTalks.Slotted (x : MixTalks) : Prop := x.granted.length ≤ 2 ∧ (x.waiting ≠ [] → x.granted.length = 2)

theorem State.keysUnique_iff (s : State) : s.KeysUnique ↔ ∀ m : Mix, s.talks[m].keys.Nodup := Iff.rfl

theorem State.slotsFilled_iff (s : State) : s.SlotsFilled ↔ ∀ m : Mix, s.talks[m].Slotted := Iff.rfl

theorem InTalk.isOf_iff {t : InTalk} {o : Station} {n : TalkNo} : t.isOf o n = true ↔ t.key = (o, n) := by
  simp [InTalk.isOf, InTalk.key]

theorem MixTalks.mem_keys {x : MixTalks} {k : Station × TalkNo} :
    k ∈ x.keys ↔ ∃ t ∈ x.granted ++ x.waiting, t.key = k := List.mem_map

theorem MixTalks.eq_empty_of_keys {x : MixTalks} (h : x.keys = []) : x = ⟨[], []⟩ := by
  obtain ⟨g, w⟩ := x
  obtain ⟨hg, hw⟩ := List.append_eq_nil_iff.1 (List.map_eq_nil_iff.1 h)
  rw [show g = [] from hg, show w = [] from hw]

theorem MixTalks.keys_erase_granted (x : MixTalks) (t : InTalk) :
    (⟨x.granted.erase t, x.waiting⟩ : MixTalks).keys.Sublist x.keys :=
  ((List.erase_sublist).append_right _).map _

theorem MixTalks.keys_erase_waiting (x : MixTalks) (t : InTalk) :
    (⟨x.granted, x.waiting.erase t⟩ : MixTalks).keys.Sublist x.keys :=
  ((List.erase_sublist).append_left _).map _

/-! ### Removals -/

/-- No record comes, and no mix has more GRANTED records than its slots, or than it had. -/
structure State.RemovalStep (s t : State) : Prop extends State.ArbStep s t where
  keys : ∀ m : Mix, t.talks[m].keys.Subperm s.talks[m].keys
  slots : ∀ m : Mix, t.talks[m].granted.length ≤ max 2 s.talks[m].granted.length

theorem State.RemovalStep.refl (s : State) : s.RemovalStep s :=
  ⟨.refl s, fun _ => .refl _, fun _ => Nat.le_max_right ..⟩

theorem State.RemovalStep.trans {s t u : State} (h : s.RemovalStep t) (g : t.RemovalStep u) : s.RemovalStep u where
  toArbStep := h.toArbStep.trans g.toArbStep
  keys m := (g.keys m).trans (h.keys m)
  slots m := (g.slots m).trans (Nat.max_le.2 ⟨Nat.le_max_left .., h.slots m⟩)

theorem foldl_removalStep {α : Type} (f : State → α → State) (hf : ∀ (s : State) (a : α), s.RemovalStep (f s a))
    (l : List α) : ∀ s : State, s.RemovalStep (l.foldl f s) := by
  induction l with
  | nil => exact fun s => .refl s
  | cons a l ih => exact fun s => (hf s a).trans (ih (f s a))

theorem State.AnswerStep.removalStep {s t : State} (h : s.AnswerStep t) : s.RemovalStep t where
  toArbStep := h.arbStep
  keys m := by rw [h.talks]
  slots m := by
    rw [h.talks]
    exact Nat.le_max_right ..

/-- A change of the talks of one mix that brings no record. -/
theorem State.ArbStep.removalStep {s t : State} (h : s.ArbStep t) {m : Mix} {x : MixTalks} (htalks : t.talks = s.talks.set m x)
    (hkeys : x.keys.Subperm s.talks[m].keys) (hslots : x.granted.length ≤ max 2 s.talks[m].granted.length) :
    s.RemovalStep t where
  toArbStep := h
  keys := by
    rw [htalks]
    exact forall_vector_set (P := fun (k : Mix) (y : MixTalks) => y.keys.Subperm s.talks[k].keys) (fun _ => .refl _) hkeys
  slots := by
    rw [htalks]
    exact forall_vector_set (P := fun (k : Mix) (y : MixTalks) => y.granted.length ≤ max 2 s.talks[k].granted.length)
      (fun _ => Nat.le_max_right ..) hslots

theorem State.RemovalStep.keysUnique {s t : State} (h : s.RemovalStep t) (g : s.KeysUnique) : t.KeysUnique := fun m => by
  obtain ⟨l, hperm, hsub⟩ := h.keys m
  exact hperm.nodup_iff.1 (hsub.nodup (g m))

/-- A mix without records stays without. -/
theorem State.RemovalStep.empty {s t : State} (h : s.RemovalStep t) {m : Mix} (g : s.talks[m] = ⟨[], []⟩) :
    t.talks[m] = ⟨[], []⟩ := by
  have hkeys := h.keys m
  rw [g] at hkeys
  exact MixTalks.eq_empty_of_keys (List.subperm_nil.1 hkeys)

/-- A key that no record of a mix has, none gets. -/
theorem State.RemovalStep.not_mem_keys {s t : State} (h : s.RemovalStep t) {m : Mix} {k : Station × TalkNo}
    (g : k ∉ s.talks[m].keys) : k ∉ t.talks[m].keys := fun hmem => g ((h.keys m).subset hmem)

theorem State.setWaiting_removalStep (s : State) (m : Mix) {ws : List InTalk} (h : ws.Sublist s.talks[m].waiting) :
    s.RemovalStep (s.setTalks m ⟨s.talks[m].granted, ws⟩) := by
  refine State.ArbStep.removalStep (m := m) (x := ⟨s.talks[m].granted, ws⟩) (s.setTalks_arbStep m (.refl _) fun _ hempty => ?_)
    rfl ?_ (Nat.le_max_right ..)
  · rw [hempty] at h ⊢
    rw [List.sublist_nil.1 h]
  · exact ((h.append_left _).map _).subperm

theorem State.dropWaiting_removalStep (s : State) (m : Mix) (t : InTalk) : s.RemovalStep (s.dropWaiting m t) :=
  s.setWaiting_removalStep m List.erase_sublist

theorem State.dropGranted_talks (s : State) (m : Mix) (t : InTalk) (c : Cause) :
    (s.dropGranted m t c).talks = s.talks.set m ⟨s.talks[m].granted.erase t, s.talks[m].waiting⟩ :=
  (State.release_spec _ m t.source).2.1

theorem State.dropGranted_removalStep (s : State) (m : Mix) {t : InTalk} (c : Cause) (h : t ∈ s.talks[m].granted) :
    s.RemovalStep (s.dropGranted m t c) := by
  refine State.ArbStep.removalStep ((s.release_arbStep m h).trans (State.incoming_answerStep _ _ _ _ _).arbStep)
    (s.dropGranted_talks m t c) ?_ ?_
  · exact (MixTalks.keys_erase_granted _ t).subperm
  · exact (List.erase_sublist.length_le).trans (Nat.le_max_right ..)

theorem State.release_elsewhere (s : State) (m : Mix) (a : SourceAddr) : State.Elsewhere m s (s.release m a) := by
  obtain ⟨-, htalks, -, -, hroutes⟩ := s.release_spec m a
  intro m' hm
  rw [htalks, hroutes]
  refine ⟨rfl, ?_⟩
  split
  · rfl
  · rw [vector_set_getElem_ne _ _ (Ne.symm hm)]

theorem State.hold_elsewhere {s t : State} {m : Mix} {a : SourceAddr} {c : Cls} (h : s.hold m a c = some t) :
    State.Elsewhere m s t := by
  obtain ⟨-, htalks, -, -, i, -, -, hroutes⟩ := State.hold_spec h
  intro m' hm
  rw [htalks, hroutes, vector_set_getElem_ne _ _ (Ne.symm hm)]
  exact ⟨rfl, rfl⟩

theorem State.dropGranted_elsewhere (s : State) (m : Mix) (t : InTalk) (c : Cause) :
    State.Elsewhere m s (s.dropGranted m t c) :=
  ((s.setTalks_elsewhere m _).trans (State.release_elsewhere _ m _)).trans ((State.incoming_answerStep _ _ _ _ _).elsewhere m)

/-! ### The filling of slots (R58) -/

theorem State.fill_of_full {s : State} {m : Mix} (h : 2 ≤ s.talks[m].granted.length ∨ s.talks[m].waiting = []) :
    s.fill m = s := by
  unfold State.fill
  cases hw : s.talks[m].waiting with
  | nil => rfl
  | cons w ws =>
    have hfull : ¬ s.talks[m].granted.length < Config.slots := Nat.not_lt.2 (h.resolve_right (by rw [hw]; nofun))
    rw [State.fillFrom, if_neg hfull]

section
variable {s : State} {m : Mix} {w : InTalk} {ws : List InTalk}

/-- The head of the wait list, without a route, is refused (R58). -/
theorem State.fill_of_refused (hfree : s.talks[m].granted.length < 2) (hw : s.talks[m].waiting = w :: ws)
    (hhold : (s.setTalks m ⟨s.talks[m].granted, ws⟩).hold m w.source w.cls = none) :
    s.fill m = ((s.setTalks m ⟨s.talks[m].granted, ws⟩).answerFor m w .refused .noRoute).fill m := by
  unfold State.fill
  rw [hw, State.fillFrom, if_pos (show s.talks[m].granted.length < Config.slots from hfree)]
  dsimp only
  rw [hhold, (State.answerFor_answerStep _ _ _ _ _).talks, State.setTalks_talks_self]

/-- The head of the wait list is promoted (R58). -/
theorem State.fill_of_held {t : State} (hfree : s.talks[m].granted.length < 2) (hw : s.talks[m].waiting = w :: ws)
    (hhold : (s.setTalks m ⟨s.talks[m].granted, ws⟩).hold m w.source w.cls = some t) :
    s.fill m = (((t.setTalks m ⟨s.talks[m].granted ++ [w.grantedAt s.audio.blockCounter], ws⟩).answerFor m
      (w.grantedAt s.audio.blockCounter) .granted .none).incoming m (w.grantedAt s.audio.blockCounter) true .promote).fill m := by
  obtain ⟨hstep, htalks, -⟩ := State.hold_spec hhold
  have hm : t.talks[m] = ⟨s.talks[m].granted, ws⟩ := by
    rw [htalks]
    exact State.setTalks_talks_self ..
  have haudio : t.audio = s.audio := hstep.audio
  unfold State.fill
  rw [hw, State.fillFrom, if_pos (show s.talks[m].granted.length < Config.slots from hfree)]
  dsimp only
  rw [hhold]
  dsimp only
  rw [hm, haudio, (State.incoming_answerStep _ _ _ _ _).talks, (State.answerFor_answerStep _ _ _ _ _).talks,
    State.setTalks_talks_self]

end

/-- What filling the slots of a mix does (R58). -/
structure State.FillStep (m : Mix) (s t : State) : Prop extends State.RemovalStep s t where
  elsewhere : State.Elsewhere m s t
  granted : s.talks[m].granted <+: t.talks[m].granted

theorem State.FillStep.refl (m : Mix) (s : State) : State.FillStep m s s :=
  ⟨.refl s, fun _ _ => ⟨rfl, rfl⟩, List.prefix_refl _⟩

theorem State.FillStep.trans {m : Mix} {s t u : State} (h : State.FillStep m s t) (g : State.FillStep m t u) :
    State.FillStep m s u where
  toRemovalStep := h.toRemovalStep.trans g.toRemovalStep
  elsewhere := h.elsewhere.trans g.elsewhere
  granted := h.granted.trans g.granted

theorem State.AnswerStep.fillStep {s t : State} (h : s.AnswerStep t) (m : Mix) : State.FillStep m s t where
  toRemovalStep := h.removalStep
  elsewhere := h.elsewhere m
  granted := by rw [h.talks]

section
variable {s : State} {m : Mix} {w : InTalk} {ws : List InTalk}

theorem State.pop_fillStep (hw : s.talks[m].waiting = w :: ws) :
    State.FillStep m s (s.setTalks m ⟨s.talks[m].granted, ws⟩) where
  toRemovalStep := s.setWaiting_removalStep m (by
    rw [hw]
    exact List.sublist_cons_self ..)
  elsewhere := s.setTalks_elsewhere m _
  granted := by rw [State.setTalks_talks_self]

theorem State.promote_fillStep {t : State} (hfree : s.talks[m].granted.length < 2) (hw : s.talks[m].waiting = w :: ws)
    (hhold : (s.setTalks m ⟨s.talks[m].granted, ws⟩).hold m w.source w.cls = some t) (b : Seq) :
    State.FillStep m s (t.setTalks m ⟨s.talks[m].granted ++ [w.grantedAt b], ws⟩) := by
  obtain ⟨hstep, htalks, houts, hevents, i, hi, -, hroutes⟩ := State.hold_spec hhold
  have htalks' : t.talks = s.talks.set m ⟨s.talks[m].granted, ws⟩ := htalks
  have hroutes' : t.routes = s.routes.set m
      (addHolder s.cfg ((s.setTalks m ⟨s.talks[m].granted, ws⟩).holderClasses
        (s.setTalks m ⟨s.talks[m].granted, ws⟩).talks[m].granted i ++ [w.cls]) s.routes[m] i) := hroutes
  have hset : (t.setTalks m ⟨s.talks[m].granted ++ [w.grantedAt b], ws⟩).talks =
      s.talks.set m ⟨s.talks[m].granted ++ [w.grantedAt b], ws⟩ := by
    rw [State.setTalks_talks, htalks', Vector.set_set]
  have harb : s.ArbStep (t.setTalks m ⟨s.talks[m].granted ++ [w.grantedAt b], ws⟩) := by
    have htables : s.RouteStep t := State.RouteStep.trans (t := s.setTalks m ⟨s.talks[m].granted, ws⟩) (.of_eq rfl rfl)
      (State.hold_routeStep hhold)
    refine State.arbStep_of_set ((s.setTalks_talkStep m ⟨s.talks[m].granted, ws⟩).trans hstep) houts hevents htables hset
      hroutes' rfl (fun g => ?_) fun _ hempty => ?_
    · refine (g.addHolder (i := i) _ _).perm ?_
      have hinput : toInput s.cfg.number (w.grantedAt b).source = some i := hi
      rw [heldInputs, heldInputs, List.map_append, List.map_singleton, hinput]
      exact List.perm_append_comm (l₁ := [some i])
    · rw [hempty] at hw
      cases hw
  refine ⟨harb.removalStep hset ?_ ?_, fun m' hm => ?_, ?_⟩
  · refine List.Perm.subperm ?_
    rw [MixTalks.keys, MixTalks.keys, hw, List.append_assoc, List.singleton_append, List.map_append, List.map_append]
    exact .refl _
  · refine le_trans ?_ (Nat.le_max_left ..)
    rw [List.length_append]
    exact hfree
  · exact ((s.setTalks_elsewhere m _).trans (State.hold_elsewhere hhold)).trans (State.setTalks_elsewhere _ _ _) m' hm
  · rw [State.setTalks_talks_self]
    exact List.prefix_append ..

end

theorem State.fill_spec (m : Mix) : ∀ (n : Nat) (s : State), s.talks[m].waiting.length = n →
    State.FillStep m s (s.fill m) ∧ (2 ≤ (s.fill m).talks[m].granted.length ∨ (s.fill m).talks[m].waiting = []) := by
  intro n
  induction n with
  | zero =>
    intro s hn
    have hempty := List.length_eq_zero_iff.1 hn
    rw [State.fill_of_full (.inr hempty)]
    exact ⟨.refl m s, .inr hempty⟩
  | succ n ih =>
    intro s hn
    by_cases hfull : 2 ≤ s.talks[m].granted.length
    · rw [State.fill_of_full (.inl hfull)]
      exact ⟨.refl m s, .inl hfull⟩
    · have hfree := Nat.lt_of_not_le hfull
      obtain ⟨w, ws, hw⟩ := List.exists_cons_of_length_eq_add_one hn
      have hlen : ws.length = n := by
        rw [hw] at hn
        exact Nat.succ.inj hn
      cases hhold : (s.setTalks m ⟨s.talks[m].granted, ws⟩).hold m w.source w.cls with
      | none =>
        rw [State.fill_of_refused hfree hw hhold]
        have hanswer := State.answerFor_answerStep (s.setTalks m ⟨s.talks[m].granted, ws⟩) m w .refused .noRoute
        obtain ⟨hstep, hdone⟩ := ih _ (by
          rw [hanswer.talks, State.setTalks_talks_self]
          exact hlen)
        exact ⟨((State.pop_fillStep hw).trans (hanswer.fillStep m)).trans hstep, hdone⟩
      | some t =>
        rw [State.fill_of_held hfree hw hhold]
        have hanswer := (State.answerFor_answerStep (t.setTalks m ⟨s.talks[m].granted ++ [w.grantedAt s.audio.blockCounter], ws⟩)
          m (w.grantedAt s.audio.blockCounter) .granted .none).trans (State.incoming_answerStep _ m
            (w.grantedAt s.audio.blockCounter) true .promote)
        obtain ⟨hstep, hdone⟩ := ih _ (by
          rw [hanswer.talks, State.setTalks_talks_self]
          exact hlen)
        exact ⟨((State.promote_fillStep hfree hw hhold _).trans (hanswer.fillStep m)).trans hstep, hdone⟩

theorem State.fill_fillStep (s : State) (m : Mix) : State.FillStep m s (s.fill m) := (State.fill_spec m _ s rfl).1

theorem State.fill_full (s : State) (m : Mix) :
    2 ≤ (s.fill m).talks[m].granted.length ∨ (s.fill m).talks[m].waiting = [] := (State.fill_spec m _ s rfl).2

end Sys2Proof.Machine

/-!
SUPPORT. What the arrival of a TALK, a TALK-END, a lapse, and the removals for an absent talker or a lost port do to the
records and slots of the mixes (R51 to R62).
-/

namespace Sys2Proof.Machine

/-! ### The exchange of a victim for a new record (R12, R54) -/

/-- The entries that a successful exchange leaves: still held as the GRANTED records say, the new one in the victim's place. -/
theorem State.exchange_routes {s t : State} {m : Mix} {v : InTalk} {a : SourceAddr} {c : Cls} (hv : v ∈ s.talks[m].granted)
    (h : s.exchange m v (s.talks[m].granted.erase v) a c = some t) :
    ∃ l, t.routes = s.routes.set m l ∧ ∀ r : InTalk, r.source = a →
      EntriesHeld s.routes[m] (heldInputs s.cfg.number s.talks[m].granted) →
      EntriesHeld l (heldInputs s.cfg.number (s.talks[m].granted.erase v ++ [r])) := by
  have hperm : (heldInputs s.cfg.number s.talks[m].granted).Perm
      (toInput s.cfg.number v.source :: heldInputs s.cfg.number (s.talks[m].granted.erase v)) :=
    heldInputs_perm (List.perm_cons_erase hv)
  have hlast : ∀ (r : InTalk) (i : Input), s.input r.source = some i →
      (some i :: heldInputs s.cfg.number (s.talks[m].granted.erase v)).Perm
        (heldInputs s.cfg.number (s.talks[m].granted.erase v ++ [r])) := fun r i hi => by
    have hinput : toInput s.cfg.number r.source = some i := hi
    rw [heldInputs, heldInputs, List.map_append, List.map_singleton, hinput]
    exact List.perm_append_comm (l₁ := [some i])
  unfold State.exchange at h
  split at h
  case h_2 => cases h
  case h_1 vi i hvi hi =>
    have hvictim : toInput s.cfg.number v.source = some vi := hvi
    rw [hvictim] at hperm
    dsimp only at h
    split at h
    case isTrue heq =>
      cases h
      refine ⟨_, (State.tellListens_listenStep _ _).routes, fun r hr g => ?_⟩
      have hheld := (g.perm hperm).perm (heq ▸ hlast r i (hr ▸ hi))
      refine hheld.change ?_ ?_ ?_
      · exact fun _ => rfl
      · exact fun _ => rfl
      · exact fun _ => id
    case isFalse hne =>
      split at h
      case isFalse => cases h
      case isTrue =>
        cases h
        rw [State.setRoutes_setRoutes, State.setRoutes_routes, vector_set_getElem_self]
        refine ⟨_, (State.tellListens_listenStep _ _).routes, fun r hr g => ?_⟩
        exact (((g.perm hperm).dropHolder _ _).addHolder _ _).perm (hlast r i (hr ▸ hi))

/-- A new record takes the victim's slot, and the victim waits (R54). -/
theorem State.exchange_arbStep {s t : State} {m : Mix} {v : InTalk} {a : SourceAddr} {c : Cls} (hv : v ∈ s.talks[m].granted)
    (h : s.exchange m v (s.talks[m].granted.erase v) a c = some t) {r : InTalk} (hr : r.source = a) (ws : List InTalk) :
    s.ArbStep (t.setTalks m ⟨s.talks[m].granted.erase v ++ [r], ws⟩) := by
  obtain ⟨hstep, htalks, houts, hevents⟩ := State.exchange_spec h
  obtain ⟨l, hroutes, hheld⟩ := State.exchange_routes hv h
  refine State.arbStep_of_set hstep houts hevents (State.exchange_routeStep h) (by rw [State.setTalks_talks, htalks]) hroutes
    rfl (hheld r hr) fun _ hempty => ?_
  rw [hempty] at hv
  cases hv

theorem State.exchange_elsewhere {s t : State} {m : Mix} {v : InTalk} {a : SourceAddr} {c : Cls}
    (hv : v ∈ s.talks[m].granted) (h : s.exchange m v (s.talks[m].granted.erase v) a c = some t) :
    State.Elsewhere m s t := by
  obtain ⟨l, hroutes, -⟩ := State.exchange_routes hv h
  intro m' hm
  rw [(State.exchange_spec h).2.1, hroutes, vector_set_getElem_ne _ _ (Ne.symm hm)]
  exact ⟨rfl, rfl⟩

/-! ### New records -/

theorem enqueue_perm (ws : List InTalk) (t : InTalk) : (enqueue ws t).Perm (t :: ws) := by
  refine List.perm_middle.trans (.cons _ ?_)
  rw [List.takeWhile_append_dropWhile]

theorem enqueuePreempted_perm (ws : List InTalk) (t : InTalk) : (enqueuePreempted ws t).Perm (t :: ws) := by
  refine List.perm_middle.trans (.cons _ ?_)
  rw [List.takeWhile_append_dropWhile]

/-- The records of a mix with one more, of the key `k`, its slots filled as before. -/
structure MixTalks.Grown (x y : MixTalks) (k : Station × TalkNo) : Prop where
  keys : y.keys.Subperm (k :: x.keys)
  slotted : x.Slotted → y.Slotted

theorem MixTalks.Grown.refl (x : MixTalks) (k : Station × TalkNo) : x.Grown x k :=
  ⟨(List.sublist_cons_self ..).subperm, id⟩

/-- The record joins the GRANTED ones in a free slot (R53). -/
theorem MixTalks.grown_granted {x : MixTalks} (h : x.granted.length < 2) (r : InTalk) :
    x.Grown ⟨x.granted ++ [r], x.waiting⟩ r.key where
  keys := by
    refine List.Perm.subperm ?_
    rw [MixTalks.keys, MixTalks.keys, List.append_assoc, List.singleton_append]
    exact List.perm_middle.map InTalk.key
  slotted := fun ⟨_, hwait⟩ => by
    refine ⟨?_, fun hne => absurd (hwait hne) (Nat.ne_of_lt h)⟩
    rw [List.length_append]
    exact h

/-- The record begins waiting behind full slots (R54). -/
theorem MixTalks.grown_waiting {x : MixTalks} (h : ¬ x.granted.length < 2) {r : InTalk} {ws : List InTalk}
    (hws : ws.Perm (r :: x.waiting)) : x.Grown ⟨x.granted, ws⟩ r.key where
  keys := by
    refine List.Perm.subperm ?_
    refine (((hws.append_left x.granted).trans List.perm_middle).map InTalk.key)
  slotted := fun ⟨hslots, _⟩ => ⟨hslots, fun _ => Nat.le_antisymm hslots (Nat.not_lt.1 h)⟩

/-- The record takes the slot of one that begins waiting (R54). -/
theorem MixTalks.grown_preempted {x : MixTalks} (h : ¬ x.granted.length < 2) {v w r : InTalk} (hv : v ∈ x.granted)
    (hkey : w.key = v.key) {ws : List InTalk} (hws : ws.Perm (w :: x.waiting)) :
    x.Grown ⟨x.granted.erase v ++ [r], ws⟩ r.key where
  keys := by
    refine List.Perm.subperm ?_
    have hgranted : (x.granted.map InTalk.key).Perm (w.key :: (x.granted.erase v).map InTalk.key) := by
      rw [hkey]
      exact (List.perm_cons_erase hv).map InTalk.key
    have hwaiting : (ws.map InTalk.key).Perm (w.key :: x.waiting.map InTalk.key) := hws.map InTalk.key
    rw [MixTalks.keys, MixTalks.keys, List.map_append, List.map_append, List.map_append, List.append_assoc]
    calc (x.granted.erase v).map InTalk.key ++ ([r].map InTalk.key ++ ws.map InTalk.key)
        _ |>.Perm ((x.granted.erase v).map InTalk.key ++ (r.key :: w.key :: x.waiting.map InTalk.key)) :=
          (hwaiting.cons r.key).append_left _
        _ |>.Perm (r.key :: w.key :: ((x.granted.erase v).map InTalk.key ++ x.waiting.map InTalk.key)) :=
          List.perm_middle.trans (.cons _ List.perm_middle)
        _ |>.Perm (r.key :: (x.granted.map InTalk.key ++ x.waiting.map InTalk.key)) :=
          .cons _ (hgranted.symm.append_right _)
  slotted := fun ⟨hslots, _⟩ => by
    have hpos := List.length_pos_of_mem hv
    have hlen : (x.granted.erase v ++ [r]).length = x.granted.length := by
      rw [List.length_append, List.length_erase_of_mem hv, List.length_singleton]
      omega
    exact ⟨hlen ▸ hslots, fun _ => hlen ▸ Nat.le_antisymm hslots (Nat.not_lt.1 h)⟩

/-- What a new talk does to a mix (R52 to R56). -/
structure State.TalkComes (m : Mix) (k : Station × TalkNo) (s t : State) : Prop extends State.ArbStep s t where
  elsewhere : State.Elsewhere m s t
  grown : s.talks[m].Grown t.talks[m] k

theorem State.AnswerStep.talkComes {s t : State} (h : s.AnswerStep t) (m : Mix) (k : Station × TalkNo) :
    State.TalkComes m k s t where
  toArbStep := h.arbStep
  elsewhere := h.elsewhere m
  grown := by
    rw [h.talks]
    exact .refl _ k

theorem State.TalkComes.answered {m : Mix} {k : Station × TalkNo} {s t u : State} (h : State.TalkComes m k s t)
    (g : t.AnswerStep u) : State.TalkComes m k s u where
  toArbStep := h.toArbStep.trans g.arbStep
  elsewhere := h.elsewhere.trans (g.elsewhere m)
  grown := by
    rw [g.talks]
    exact h.grown

section
variable {s : State} {m : Mix} {q : TalkRequest}

theorem TalkRequest.record_key (q : TalkRequest) (t : Nat) (b : Seq) : (q.record t b).key = (q.talker, q.number) := rfl

theorem State.grantTalk_talkComes (hdown : s.talkDown m = false) (hfree : s.talks[m].granted.length < 2) :
    State.TalkComes m (q.talker, q.number) s (s.grantTalk m q) := by
  unfold State.grantTalk
  split
  case h_2 => exact (s.answer_answerStep _ _ _ _ _).talkComes _ _
  case h_1 held hheld =>
    have hm : held.talks[m] = s.talks[m] := by rw [(State.hold_spec hheld).2.1]
    dsimp only
    rw [hm]
    refine .answered ?_ ((State.answerFor_answerStep _ _ _ _ _).trans (State.incoming_answerStep _ _ _ _ _))
    refine ⟨State.hold_arbStep hheld rfl _ fun h => ?_, (State.hold_elsewhere hheld).trans (State.setTalks_elsewhere _ _ _), ?_⟩
    · rw [hdown] at h
      cases h
    · rw [State.setTalks_talks_self]
      exact MixTalks.grown_granted hfree (q.record held.clock.now held.audio.blockCounter)

theorem State.waitTalk_talkComes (hdown : s.talkDown m = false) (hfull : ¬ s.talks[m].granted.length < 2) :
    State.TalkComes m (q.talker, q.number) s (s.waitTalk m q) := by
  refine .answered (t := s.setTalks m ⟨s.talks[m].granted,
    enqueue s.talks[m].waiting (q.record s.clock.now s.audio.blockCounter)⟩) ?_ (State.answerFor_answerStep _ _ _ _ _)
  refine ⟨s.setTalks_arbStep m (.refl _) fun h => ?_, s.setTalks_elsewhere m _, ?_⟩
  · rw [hdown] at h
    cases h
  · rw [State.setTalks_talks_self]
    exact MixTalks.grown_waiting hfull (enqueue_perm _ (q.record s.clock.now s.audio.blockCounter))

theorem State.preempt_talkComes (hfull : ¬ s.talks[m].granted.length < 2) {v : InTalk} (hv : v ∈ s.talks[m].granted) :
    State.TalkComes m (q.talker, q.number) s (s.preempt m q v) := by
  unfold State.preempt
  dsimp only
  split
  case h_2 => exact (s.answer_answerStep _ _ _ _ _).talkComes _ _
  case h_1 held hheld =>
    have hm : held.talks[m] = s.talks[m] := by rw [(State.exchange_spec hheld).2.1]
    rw [hm]
    refine .answered ?_ ((((State.answerFor_answerStep _ _ _ _ _).trans (State.answerFor_answerStep _ _ _ _ _)).trans
      (State.incoming_answerStep _ _ _ _ _)).trans (State.incoming_answerStep _ _ _ _ _))
    refine ⟨State.exchange_arbStep hv hheld rfl _,
      (State.exchange_elsewhere hv hheld).trans (State.setTalks_elsewhere _ _ _), ?_⟩
    rw [State.setTalks_talks_self]
    exact MixTalks.grown_preempted (r := q.record held.clock.now held.audio.blockCounter)
      (w := { v with preempted := true, orderStamp := held.audio.blockCounter }) hfull hv rfl (enqueuePreempted_perm _ _)

end

theorem State.newTalk_talkComes (s : State) (m : Mix) (q : TalkRequest) :
    State.TalkComes m (q.talker, q.number) s (s.newTalk m q) := by
  unfold State.newTalk
  split
  case h_1 => exact (s.answer_answerStep _ _ _ _ _).talkComes _ _
  case h_2 htest =>
    obtain ⟨hdown, -⟩ := State.of_talkTest_eq_none htest
    split
    case isTrue hfree => exact State.grantTalk_talkComes hdown hfree
    case isFalse hfull =>
      split
      case h_1 v hv =>
        split
        · exact State.preempt_talkComes hfull (victimOf_mem hv)
        · exact State.waitTalk_talkComes hdown hfull
      case h_2 => exact State.waitTalk_talkComes hdown hfull

/-! ### The end of one record -/

/-- A removal from one mix whose slots are filled thereby. -/
structure State.EndStep (m : Mix) (s t : State) : Prop extends State.RemovalStep s t where
  elsewhere : State.Elsewhere m s t
  slotted : s.talks[m].Slotted → t.talks[m].Slotted

theorem State.EndStep.refl (m : Mix) (s : State) : State.EndStep m s s := ⟨.refl s, fun _ _ => ⟨rfl, rfl⟩, id⟩

theorem State.EndStep.slotsFilled {m : Mix} {s t : State} (h : State.EndStep m s t) (g : s.SlotsFilled) : t.SlotsFilled :=
  fun m' => by
    by_cases hm : m' = m
    · subst hm
      exact h.slotted (g m')
    · rw [(h.elsewhere m' hm).1]
      exact g m'

theorem State.AnswerStep.endStep {s t : State} (h : s.AnswerStep t) (m : Mix) : State.EndStep m s t where
  toRemovalStep := h.removalStep
  elsewhere := h.elsewhere m
  slotted := by
    rw [h.talks]
    exact id

/-- After any removal from a mix its slots are filled (R58). -/
theorem State.RemovalStep.thenFill {s t : State} {m : Mix} (h : s.RemovalStep t) (helse : State.Elsewhere m s t) :
    State.EndStep m s (t.fill m) where
  toRemovalStep := h.trans (t.fill_fillStep m).toRemovalStep
  elsewhere := helse.trans (t.fill_fillStep m).elsewhere
  slotted := fun ⟨hslots, _⟩ => by
    have hmost := (h.trans (t.fill_fillStep m).toRemovalStep).slots m
    have hle := hmost.trans (Nat.max_le.2 ⟨le_rfl, hslots⟩)
    exact ⟨hle, fun hne => Nat.le_antisymm hle ((t.fill_full m).resolve_right hne)⟩

theorem State.dropWaiting_endStep (s : State) (m : Mix) (t : InTalk) : State.EndStep m s (s.dropWaiting m t) where
  toRemovalStep := s.dropWaiting_removalStep m t
  elsewhere := s.setTalks_elsewhere m _
  slotted := fun ⟨hslots, hwait⟩ => by
    unfold State.dropWaiting
    rw [State.setTalks_talks_self]
    refine ⟨hslots, fun hne => hwait fun hempty => hne ?_⟩
    rw [hempty, List.erase_nil]

theorem State.endRecord_endStep (s : State) (m : Mix) (o : Station) (n : TalkNo) :
    State.EndStep m s (s.endRecord m o n) := by
  unfold State.endRecord
  split
  case h_1 t ht =>
    exact (s.dropGranted_removalStep m _ (List.mem_of_find?_eq_some ht)).thenFill (s.dropGranted_elsewhere m t _)
  case h_2 =>
    split
    · exact s.dropWaiting_endStep m _
    · exact .refl m s

theorem State.lapse_endStep (s : State) (m : Mix) {t : InTalk} {g : Bool} (h : g = true → t ∈ s.talks[m].granted) :
    State.EndStep m s (s.lapse m t g) := by
  unfold State.lapse
  split
  case isTrue hg =>
    exact ((s.dropGranted_removalStep m _ (h hg)).trans (State.answerFor_answerStep _ _ _ _ _).removalStep).thenFill
      ((s.dropGranted_elsewhere m t _).trans ((State.answerFor_answerStep _ _ _ _ _).elsewhere m))
  case isFalse =>
    have hanswer := State.answerFor_answerStep (s.dropWaiting m t) m t .lapsed .timeout
    have hdrop := s.dropWaiting_endStep m t
    exact ⟨hdrop.toRemovalStep.trans hanswer.removalStep, hdrop.elsewhere.trans (hanswer.elsewhere m), by
      rw [hanswer.talks]
      exact hdrop.slotted⟩

/-- A key that one record of a mix at most has is gone when that record leaves. -/
theorem not_mem_keys_erase {x : MixTalks} (h : x.keys.Nodup) {t : InTalk} :
    (t ∈ x.granted → t.key ∉ (⟨x.granted.erase t, x.waiting⟩ : MixTalks).keys) ∧
    (t ∈ x.waiting → t ∉ x.granted → t.key ∉ (⟨x.granted, x.waiting.erase t⟩ : MixTalks).keys) := by
  have hperm : ∀ l, (x.granted ++ x.waiting).Perm (t :: l) → t.key ∉ l.map InTalk.key := fun l hl => by
    have hnodup : (t.key :: l.map InTalk.key).Nodup := (hl.map InTalk.key).nodup_iff.1 h
    exact (List.nodup_cons.1 hnodup).1
  exact ⟨fun ht => hperm _ ((List.perm_cons_erase ht).append_right x.waiting),
    fun ht _ => hperm _ (((List.perm_cons_erase ht).append_left x.granted).trans List.perm_middle)⟩

/-- A TALK-END leaves no record of its key on the mix (R59). -/
theorem State.endRecord_not_mem_keys {s : State} (h : s.KeysUnique) (m : Mix) (o : Station) (n : TalkNo) :
    (o, n) ∉ (s.endRecord m o n).talks[m].keys := by
  unfold State.endRecord
  split
  case h_1 t ht =>
    have hkey : t.key = (o, n) := InTalk.isOf_iff.1 (List.find?_some ht :)
    refine (State.fill_fillStep _ m).toRemovalStep.not_mem_keys ?_
    rw [s.dropGranted_talks, vector_set_getElem_self, ← hkey]
    exact (not_mem_keys_erase (h m)).1 (List.mem_of_find?_eq_some ht)
  case h_2 hgranted =>
    have hnone := List.find?_eq_none.1 hgranted
    split
    case h_1 t ht =>
      have hkey : t.key = (o, n) := InTalk.isOf_iff.1 (List.find?_some ht :)
      unfold State.dropWaiting
      rw [State.setTalks_talks_self, ← hkey]
      exact (not_mem_keys_erase (h m)).2 (List.mem_of_find?_eq_some ht) fun hmem => hnone t hmem (List.find?_some ht :)
    case h_2 hwaiting =>
      intro hmem
      obtain ⟨t, ht, hkey⟩ := MixTalks.mem_keys.1 hmem
      rcases List.mem_append.1 ht with hg | hw
      · exact hnone t hg (InTalk.isOf_iff.2 hkey)
      · exact List.find?_eq_none.1 hwaiting t hw (InTalk.isOf_iff.2 hkey)

/-! ### The arrival of a TALK (R50, R51) -/

/-- A TALK for one mix keeps what its refresh, or its end and its new talk, keep (R51). -/
structure State.TalkTaken (m : Mix) (s t : State) : Prop extends State.ArbStep s t where
  elsewhere : State.Elsewhere m s t
  slotted : s.talks[m].Slotted → t.talks[m].Slotted
  unique : s.KeysUnique → t.talks[m].keys.Nodup

theorem State.TalkTaken.slotsFilled {m : Mix} {s t : State} (h : State.TalkTaken m s t) (g : s.SlotsFilled) :
    t.SlotsFilled := fun m' => by
  by_cases hm : m' = m
  · subst hm
    exact h.slotted (g m')
  · rw [(h.elsewhere m' hm).1]
    exact g m'

theorem State.TalkTaken.keysUnique {m : Mix} {s t : State} (h : State.TalkTaken m s t) (g : s.KeysUnique) :
    t.KeysUnique := fun m' => by
  by_cases hm : m' = m
  · subst hm
    exact h.unique g
  · rw [(h.elsewhere m' hm).1]
    exact g m'

theorem State.TalkComes.talkTaken {m : Mix} {k : Station × TalkNo} {s t : State} (h : State.TalkComes m k s t)
    (hnew : k ∉ s.talks[m].keys) : State.TalkTaken m s t where
  toArbStep := h.toArbStep
  elsewhere := h.elsewhere
  slotted := h.grown.slotted
  unique g := by
    obtain ⟨l, hperm, hsub⟩ := h.grown.keys
    exact hperm.nodup_iff.1 (hsub.nodup (List.nodup_cons.2 ⟨hnew, g m⟩))

theorem refreshIn_map {α : Type} {f : InTalk → α} (hf : ∀ (t : InTalk) (now : Nat), f { t with lastRefresh := now } = f t)
    (ts : List InTalk) (q : TalkRequest) (now : Nat) : (refreshIn ts q now).map f = ts.map f := by
  rw [refreshIn, List.map_map]
  refine List.map_congr_left fun t _ => ?_
  rw [Function.comp]
  split
  · exact hf t now
  · rfl

theorem refreshIn_length (ts : List InTalk) (q : TalkRequest) (now : Nat) : (refreshIn ts q now).length = ts.length :=
  List.length_map _

/-- The records of a mix with one refreshed in its place (R51). -/
theorem State.refresh_talkTaken (s : State) (m : Mix) (q : TalkRequest) (now : Nat) :
    State.TalkTaken m s (s.setTalks m ⟨refreshIn s.talks[m].granted q now, refreshIn s.talks[m].waiting q now⟩) where
  toArbStep := s.setTalks_arbStep m (by
      rw [heldInputs, heldInputs, refreshIn_map fun _ _ => rfl]) fun _ hempty => by
    rw [hempty]
    rfl
  elsewhere := s.setTalks_elsewhere m _
  slotted := fun ⟨hslots, hwait⟩ => by
    rw [State.setTalks_talks_self]
    refine ⟨(refreshIn_length ..).trans_le hslots, fun hne => (refreshIn_length ..).trans (hwait fun hempty => hne ?_)⟩
    rw [hempty]
    rfl
  unique g := by
    rw [State.setTalks_talks_self, MixTalks.keys, List.map_append, refreshIn_map fun _ _ => rfl, refreshIn_map fun _ _ => rfl,
      ← List.map_append]
    exact g m

theorem State.TalkTaken.answered {m : Mix} {s t u : State} (h : State.TalkTaken m s t) (g : t.AnswerStep u) :
    State.TalkTaken m s u where
  toArbStep := h.toArbStep.trans g.arbStep
  elsewhere := h.elsewhere.trans (g.elsewhere m)
  slotted := by
    rw [g.talks]
    exact h.slotted
  unique := by
    rw [g.talks]
    exact h.unique

/-- A record's number is used for another source: the record ends and the TALK is a new one (R51). -/
theorem State.reuse_talkTaken (s : State) (m : Mix) (q : TalkRequest) :
    State.TalkTaken m s ((s.endRecord m q.talker q.number).newTalk m q) := by
  have hend := s.endRecord_endStep m q.talker q.number
  have hnew := (s.endRecord m q.talker q.number).newTalk_talkComes m q
  refine ⟨hend.toArbStep.trans hnew.toArbStep, hend.elsewhere.trans hnew.elsewhere, hnew.grown.slotted ∘ hend.slotted,
    fun g => (hnew.talkTaken (State.endRecord_not_mem_keys g m _ _)).unique (hend.toRemovalStep.keysUnique g)⟩

theorem State.takeTalkMix_talkTaken (q : TalkRequest) (s : State) (m : Mix) :
    State.TalkTaken m s (State.takeTalkMix q s m) := by
  unfold State.takeTalkMix
  dsimp only
  split
  · split
    · exact (s.refresh_talkTaken m q _).answered (State.answer_answerStep _ _ _ _ _ _)
    · exact s.reuse_talkTaken m q
  case h_2 hgranted =>
    split
    · split
      · exact (s.refresh_talkTaken m q _).answered (State.answer_answerStep _ _ _ _ _ _)
      · exact s.reuse_talkTaken m q
    case h_2 hwaiting =>
      refine (s.newTalk_talkComes m q).talkTaken fun hmem => ?_
      obtain ⟨t, ht, hkey⟩ := MixTalks.mem_keys.1 hmem
      rcases List.mem_append.1 ht with hg | hw
      · exact List.find?_eq_none.1 hgranted t hg (InTalk.isOf_iff.2 hkey)
      · exact List.find?_eq_none.1 hwaiting t hw (InTalk.isOf_iff.2 hkey)

/-! ### Every operation, over all mixes -/

/-- What every command leaves of the talks: the tables true to each other, slots filled, keys unique. -/
structure State.TablesStep (s t : State) : Prop extends State.ArbStep s t where
  slotsFilled : s.SlotsFilled → t.SlotsFilled
  keysUnique : s.KeysUnique → t.KeysUnique

theorem State.TablesStep.refl (s : State) : s.TablesStep s := ⟨.refl s, id, id⟩

theorem State.TablesStep.trans {s t u : State} (h : s.TablesStep t) (g : t.TablesStep u) : s.TablesStep u where
  toArbStep := h.toArbStep.trans g.toArbStep
  slotsFilled := g.slotsFilled ∘ h.slotsFilled
  keysUnique := g.keysUnique ∘ h.keysUnique

theorem foldl_tablesStep {α : Type} (f : State → α → State) (hf : ∀ (s : State) (a : α), s.TablesStep (f s a)) (l : List α) :
    ∀ s : State, s.TablesStep (l.foldl f s) := by
  induction l with
  | nil => exact fun s => .refl s
  | cons a l ih => exact fun s => (hf s a).trans (ih (f s a))

theorem State.TalkTaken.tablesStep {m : Mix} {s t : State} (h : State.TalkTaken m s t) : s.TablesStep t :=
  ⟨h.toArbStep, h.slotsFilled, h.keysUnique⟩

theorem State.EndStep.tablesStep {m : Mix} {s t : State} (h : State.EndStep m s t) : s.TablesStep t :=
  ⟨h.toArbStep, h.slotsFilled, h.toRemovalStep.keysUnique⟩

theorem State.AnswerStep.tablesStep {s t : State} (h : s.AnswerStep t) : s.TablesStep t := (h.endStep 0).tablesStep

theorem State.takeTalk_tablesStep (s : State) (all : Bool) (q : TalkRequest) (k : TargetKind) (v : Fin 32) :
    s.TablesStep (s.takeTalk all q k v) := by
  unfold State.takeTalk
  split
  · split
    · exact (s.count_answerStep _).tablesStep
    · split
      · exact (State.takeTalkMix_talkTaken _ _ _).tablesStep
      · exact (s.answer_answerStep _ _ _ _ _).tablesStep
  · split
    · exact foldl_tablesStep _ (fun s m => (State.takeTalkMix_talkTaken q s m).tablesStep) _ s
    · split
      · exact (s.count_answerStep _).tablesStep
      · exact (s.answer_answerStep _ _ _ _ _).tablesStep

theorem State.takeTalkEnd_removalStep (s : State) (o : Station) (n : TalkNo) : s.RemovalStep (s.takeTalkEnd o n) :=
  foldl_removalStep _ (fun s m => (s.endRecord_endStep m o n).toRemovalStep) _ s

theorem State.takeTalkEnd_tablesStep (s : State) (o : Station) (n : TalkNo) : s.TablesStep (s.takeTalkEnd o n) :=
  foldl_tablesStep _ (fun s m => (s.endRecord_endStep m o n).tablesStep) _ s

end Sys2Proof.Machine

/-!
SUPPORT. Lapses, the removals for an absent talker and a lost port, and the talker's operations: what they leave of the
records, and that they keep the tables true to each other (R49, R52, R60 to R62, R71 to R76).
-/

namespace Sys2Proof.Machine

/-! ### Removals of a list of records (R61, R62) -/

theorem State.removeWaiting_talks (m : Mix) (why : Reason) (s : State) (t : InTalk) :
    (State.removeWaiting m why s t).talks = s.talks.set m ⟨s.talks[m].granted, s.talks[m].waiting.erase t⟩ :=
  (State.answerFor_answerStep (s.dropWaiting m t) m t .lapsed why).talks

theorem State.removeWaiting_removalStep (m : Mix) (why : Reason) (s : State) (t : InTalk) :
    s.RemovalStep (State.removeWaiting m why s t) :=
  (s.dropWaiting_removalStep m t).trans (State.answerFor_answerStep _ _ _ _ _).removalStep

theorem State.removeWaiting_elsewhere (m : Mix) (why : Reason) (s : State) (t : InTalk) :
    State.Elsewhere m s (State.removeWaiting m why s t) :=
  (s.setTalks_elsewhere m _).trans ((State.answerFor_answerStep _ _ _ _ _).elsewhere m)

theorem State.removeGranted_talks (m : Mix) (why : Reason) (c : Cause) (s : State) (t : InTalk) :
    (State.removeGranted m why c s t).talks = s.talks.set m ⟨s.talks[m].granted.erase t, s.talks[m].waiting⟩ :=
  (State.answerFor_answerStep (s.dropGranted m t c) m t .lapsed why).talks.trans (s.dropGranted_talks m t c)

theorem State.removeGranted_removalStep (m : Mix) (why : Reason) (c : Cause) (s : State) {t : InTalk}
    (h : t ∈ s.talks[m].granted) : s.RemovalStep (State.removeGranted m why c s t) :=
  (s.dropGranted_removalStep m c h).trans (State.answerFor_answerStep _ _ _ _ _).removalStep

theorem State.removeGranted_elsewhere (m : Mix) (why : Reason) (c : Cause) (s : State) (t : InTalk) :
    State.Elsewhere m s (State.removeGranted m why c s t) :=
  (s.dropGranted_elsewhere m t c).trans ((State.answerFor_answerStep _ _ _ _ _).elsewhere m)

/-- A removal from one mix, with what it leaves of that mix. -/
structure State.Removed (m : Mix) (x : MixTalks) (s t : State) : Prop extends State.RemovalStep s t where
  elsewhere : State.Elsewhere m s t
  left : t.talks[m] = x

theorem State.removeWaiting_removed (m : Mix) (why : Reason) (l : List InTalk) : ∀ s : State,
    State.Removed m ⟨s.talks[m].granted, s.talks[m].waiting.diff l⟩ s (l.foldl (State.removeWaiting m why) s) := by
  induction l with
  | nil => exact fun s => ⟨.refl s, fun _ _ => ⟨rfl, rfl⟩, rfl⟩
  | cons t l ih =>
    intro s
    obtain ⟨hstep, helse, hleft⟩ := ih (State.removeWaiting m why s t)
    refine ⟨(State.removeWaiting_removalStep m why s t).trans hstep, (State.removeWaiting_elsewhere m why s t).trans helse, ?_⟩
    rw [List.foldl_cons, hleft, State.removeWaiting_talks, vector_set_getElem_self, List.diff_cons]

theorem State.removeGranted_removed (m : Mix) (why : Reason) (c : Cause) (l : List InTalk) : ∀ s : State,
    l.Subperm s.talks[m].granted → State.Removed m ⟨s.talks[m].granted.diff l, s.talks[m].waiting⟩ s
      (l.foldl (State.removeGranted m why c) s) := by
  induction l with
  | nil => exact fun s _ => ⟨.refl s, fun _ _ => ⟨rfl, rfl⟩, rfl⟩
  | cons t l ih =>
    intro s hsub
    have hnext := State.removeGranted_talks m why c s t
    have hl : l.Subperm (State.removeGranted m why c s t).talks[m].granted := by
      rw [hnext, vector_set_getElem_self]
      simpa using hsub.erase t
    obtain ⟨hstep, helse, hleft⟩ := ih (State.removeGranted m why c s t) hl
    refine ⟨(State.removeGranted_removalStep m why c s (hsub.subset List.mem_cons_self)).trans hstep,
      (State.removeGranted_elsewhere m why c s t).trans helse, ?_⟩
    rw [List.foldl_cons, hleft, hnext, vector_set_getElem_self, List.diff_cons]

theorem mem_diff_filter {α : Type} [DecidableEq α] {l : List α} {p : α → Bool} {a : α} :
    a ∈ l.diff (l.filter p) ↔ a ∈ l ∧ p a = false := by
  rw [← List.count_pos_iff, List.count_diff]
  cases hp : p a with
  | true =>
    rw [List.count_filter hp, Nat.sub_self]
    simp
  | false =>
    have hzero : (l.filter p).count a = 0 := List.count_eq_zero.2 fun hmem => by
      rw [(List.mem_filter.1 hmem).2] at hp
      cases hp
    rw [hzero, Nat.sub_zero, List.count_pos_iff]
    simp

theorem State.removeTalker_removed (st : Station) (s : State) (m : Mix) :
    State.Removed m ⟨s.talks[m].granted.diff (s.talks[m].granted.filter fun t => t.talker == st),
      s.talks[m].waiting.diff (s.talks[m].waiting.filter fun t => t.talker == st)⟩ s (State.removeTalker st s m) := by
  obtain ⟨hwaiting, helse, hleft⟩ := State.removeWaiting_removed m .talkerGone
    (s.talks[m].waiting.filter fun t => t.talker == st) s
  have hgranted := State.removeGranted_removed m .talkerGone .talkerGone (s.talks[m].granted.filter fun t => t.talker == st)
    ((s.talks[m].waiting.filter fun t => t.talker == st).foldl (State.removeWaiting m .talkerGone) s) (by
      rw [hleft]
      exact List.filter_sublist.subperm)
  rw [hleft] at hgranted
  exact ⟨hwaiting.trans hgranted.toRemovalStep, helse.trans hgranted.elsewhere, hgranted.left⟩

theorem diff_self_eq_nil {α : Type} [DecidableEq α] (l : List α) : l.diff l = [] := by
  rw [List.eq_nil_iff_forall_not_mem]
  intro a ha
  rw [← List.count_pos_iff, List.count_diff, Nat.sub_self] at ha
  exact absurd ha (Nat.lt_irrefl 0)

theorem State.clearReturnMix_removed (s : State) (k : PortNo) :
    State.Removed (returnMix k) ⟨[], []⟩ s (s.clearReturnMix k) := by
  obtain ⟨hwaiting, helse, hleft⟩ := State.removeWaiting_removed (returnMix k) .destDown s.talks[returnMix k].waiting s
  have hgranted := State.removeGranted_removed (returnMix k) .destDown .destDown s.talks[returnMix k].granted
    (s.talks[returnMix k].waiting.foldl (State.removeWaiting (returnMix k) .destDown) s) (by rw [hleft])
  rw [hleft] at hgranted
  dsimp only at hgranted
  rw [diff_self_eq_nil, diff_self_eq_nil] at hgranted
  exact ⟨hwaiting.trans hgranted.toRemovalStep, helse.trans hgranted.elsewhere, hgranted.left⟩

/-- A removal that leaves a mix without records leaves its slots filled. -/
theorem State.Removed.tablesStep {m : Mix} {s t : State} (h : State.Removed m ⟨[], []⟩ s t) : s.TablesStep t where
  toArbStep := h.toArbStep
  keysUnique := h.toRemovalStep.keysUnique
  slotsFilled g m' := by
    by_cases hm : m' = m
    · subst hm
      rw [h.left]
      exact ⟨Nat.zero_le _, fun hne => absurd rfl hne⟩
    · rw [(h.elsewhere m' hm).1]
      exact g m'

/-! ### An absent talker (R61) -/

theorem State.removeTalkers_removalStep (s : State) (st : Station) :
    s.RemovalStep ((List.finRange 24).foldl (State.removeTalker st) s) :=
  foldl_removalStep _ (fun s m => (State.removeTalker_removed st s m).toRemovalStep) _ s

/-- Filling the slots of a list of mixes fills them, and no other mix changes. -/
theorem State.fills_slotted (l : List Mix) : ∀ s : State, (∀ m : Mix, s.talks[m].granted.length ≤ 2) →
    (∀ m : Mix, m ∉ l → s.talks[m].Slotted) → (l.foldl State.fill s).SlotsFilled := by
  induction l with
  | nil => exact fun s _ h => fun m => h m List.not_mem_nil
  | cons m l ih =>
    intro s hslots h
    have hfill := s.fill_fillStep m
    have hmost : ∀ m' : Mix, (s.fill m).talks[m'].granted.length ≤ 2 := fun m' =>
      (hfill.slots m').trans (Nat.max_le.2 ⟨le_rfl, hslots m'⟩)
    refine ih (s.fill m) hmost fun m' hm' => ?_
    by_cases heq : m' = m
    · subst heq
      exact ⟨hmost m', fun hne => Nat.le_antisymm (hmost m') ((s.fill_full m').resolve_right hne)⟩
    · rw [(hfill.elsewhere m' heq).1]
      exact h m' fun hmem => (List.mem_cons.1 hmem).elim heq hm'

theorem State.arbiterAbsence_removalStep (s : State) (st : Station) : s.RemovalStep (s.arbiterAbsence st) :=
  (s.removeTalkers_removalStep st).trans (foldl_removalStep _ (fun s m => (s.fill_fillStep m).toRemovalStep) _ _)

theorem State.arbiterAbsence_tablesStep (s : State) (st : Station) : s.TablesStep (s.arbiterAbsence st) where
  toArbStep := (s.arbiterAbsence_removalStep st).toArbStep
  keysUnique := (s.arbiterAbsence_removalStep st).keysUnique
  slotsFilled g := State.fills_slotted _ _ (fun m =>
    ((s.removeTalkers_removalStep st).slots m).trans (Nat.max_le.2 ⟨le_rfl, (g m).1⟩)) fun m hm =>
      absurd (List.mem_finRange m) hm

/-! ### Changes that keep the tables true to each other -/

/-- The tables that are true to each other in `s` are so in `t` (R3, R14, R48, R49, R52), and a configured station stays one. -/
structure State.TrueStep (s t : State) : Prop where
  mode : s.mode ≠ .unconfigured → t.mode ≠ .unconfigured
  routes : s.RouteStep t
  slots : s.SlotsFilled → t.SlotsFilled
  keys : s.KeysUnique → t.KeysUnique
  admitted : s.ReturnTalksAdmitted → t.ReturnTalksAdmitted
  holders : s.HoldersCountGranted → t.HoldersCountGranted

theorem State.TrueStep.refl (s : State) : s.TrueStep s := ⟨id, .refl s, id, id, id, id⟩

theorem State.TrueStep.trans {s t u : State} (h : s.TrueStep t) (g : t.TrueStep u) : s.TrueStep u where
  mode := g.mode ∘ h.mode
  routes := h.routes.trans g.routes
  slots := g.slots ∘ h.slots
  keys := g.keys ∘ h.keys
  admitted := g.admitted ∘ h.admitted
  holders := g.holders ∘ h.holders

theorem foldl_trueStep {α : Type} (f : State → α → State) (hf : ∀ (s : State) (a : α), s.TrueStep (f s a)) (l : List α) :
    ∀ s : State, s.TrueStep (l.foldl f s) := by
  induction l with
  | nil => exact fun s => .refl s
  | cons a l ih => exact fun s => (hf s a).trans (ih (f s a))

/-- The port of a return mix. -/
theorem portOf_returnMix (k : PortNo) : portOf (returnMix k) = some k := by
  have hk : 16 ≤ (returnMix k).val := Nat.le_add_right ..
  rw [portOf, dif_pos hk]
  refine congrArg some (Fin.ext ?_)
  exact Nat.add_sub_cancel_left ..

theorem State.talkDown_returnMix (s : State) (k : PortNo) : s.talkDown (returnMix k) = !s.ports[k].state.admitted := by
  unfold State.talkDown
  rw [portOf_returnMix]

theorem State.ArbStep.returnTalksAdmitted {s t : State} (h : s.ArbStep t) (g : s.ReturnTalksAdmitted) :
    t.ReturnTalksAdmitted := fun k => by
  rw [h.ports]
  cases hk : s.ports[k].state.admitted with
  | true => exact .inr rfl
  | false =>
    refine .inl (h.closed _ ?_ ((g k).resolve_right (by rw [hk]; nofun)))
    rw [State.talkDown_returnMix, hk]
    rfl

theorem State.TablesStep.trueStep {s t : State} (h : s.TablesStep t) : s.TrueStep t where
  mode g := h.mode ▸ g
  routes := h.tables
  slots := h.slotsFilled
  keys := h.keysUnique
  admitted := h.toArbStep.returnTalksAdmitted
  holders := h.holders

/-- Entries and records as they were, and no port left an admitted state. -/
theorem State.TrueStep.of_eq {s t : State} (hmode : s.mode ≠ .unconfigured → t.mode ≠ .unconfigured)
    (htables : s.RouteStep t) (hroutes : t.routes = s.routes)
    (htalks : t.talks = s.talks) (hcfg : t.cfg = s.cfg)
    (hports : ∀ k : PortNo, s.ports[k].state.admitted = true → t.ports[k].state.admitted = true) : s.TrueStep t where
  mode := hmode
  routes := htables
  slots h := by
    unfold State.SlotsFilled at h ⊢
    rwa [htalks]
  keys h := by
    unfold State.KeysUnique at h ⊢
    rwa [htalks]
  admitted h := fun k => by
    rw [htalks]
    exact (h k).imp_right (hports k)
  holders h := h.congr hroutes hcfg fun m => by rw [htalks]

theorem State.setOut_trueStep (s : State) (n : TalkNo) (o : Option OutTalk) : s.TrueStep (s.setOut n o) :=
  .of_eq id (.of_eq rfl rfl) rfl rfl rfl fun _ => id

theorem State.AnswerStep.trueStep {s t : State} (h : s.AnswerStep t) : s.TrueStep t := h.tablesStep.trueStep

/-! ### The talker -/

theorem State.sendTalk_tablesStep (s : State) (n : TalkNo) (x : OutTalk) : s.TablesStep (s.sendTalk n x) := by
  unfold State.sendTalk
  dsimp only
  split
  · exact (s.takeTalk_tablesStep _ _ _ _).trans (State.toRing_answerStep _ _ _).tablesStep
  · exact (s.toRing_answerStep _ _).tablesStep

theorem State.sendTalkEnd_removalStep (s : State) (n : TalkNo) (x : OutTalk) : s.RemovalStep (s.sendTalkEnd n x) := by
  unfold State.sendTalkEnd
  dsimp only
  split
  · exact (s.takeTalkEnd_removalStep _ _).trans (State.toRing_answerStep _ _ _).removalStep
  · exact (s.toRing_answerStep _ _).removalStep

theorem State.sendTalkEnd_tablesStep (s : State) (n : TalkNo) (x : OutTalk) : s.TablesStep (s.sendTalkEnd n x) := by
  unfold State.sendTalkEnd
  dsimp only
  split
  · exact (s.takeTalkEnd_tablesStep _ _).trans (State.toRing_answerStep _ _ _).tablesStep
  · exact (s.toRing_answerStep _ _).tablesStep

theorem State.createTalk_trueStep (s : State) (n : TalkNo) (x : OutTalk) : s.TrueStep (s.createTalk n x) :=
  ((s.setOut_trueStep _ _).trans (State.emit_answerStep _ _).trueStep).trans (State.sendTalk_tablesStep _ _ _).trueStep

theorem State.releaseTalk_trueStep (s : State) (n : TalkNo) : s.TrueStep (s.releaseTalk n) := by
  unfold State.releaseTalk
  split
  · exact .refl s
  · exact ((s.sendTalkEnd_tablesStep _ _).trueStep.trans (State.emit_answerStep _ _).trueStep).trans
      (State.setOut_trueStep _ _ _)

theorem State.releasePortTalk_trueStep (s : State) (k : PortNo) : s.TrueStep (s.releasePortTalk k) := by
  unfold State.releasePortTalk
  split
  · exact s.releaseTalk_trueStep _
  · exact .refl s

theorem State.portTalkOn_trueStep (s : State) (k : PortNo) : s.TrueStep (s.portTalkOn k) := by
  unfold State.portTalkOn
  split
  · split
    · exact (s.count_answerStep _).trueStep
    · split
      · exact (s.count_answerStep _).trueStep
      · exact s.createTalk_trueStep _ _
  · exact .refl s

/-- A mix without records has none after a release (R75). -/
theorem State.releasePortTalk_empty (s : State) (k : PortNo) {m : Mix} (h : s.talks[m] = ⟨[], []⟩) :
    (s.releasePortTalk k).talks[m] = ⟨[], []⟩ := by
  unfold State.releasePortTalk
  split
  case h_2 => exact h
  case h_1 n _ =>
    unfold State.releaseTalk
    split
    · exact h
    case h_2 x _ => exact (s.sendTalkEnd_removalStep n x).empty h

end Sys2Proof.Machine

/-!
SUPPORT. The remaining operations keep the tables true to each other: the listen table's, the field ports', the roster's,
those of the ring interface and of local audio, which spare the tables, and the control port's.
-/

namespace Sys2Proof.Machine

/-! ### Operations that spare the tables -/

/-- The tables, the ports, the configuration and the mode are as they were. -/
structure State.Spares (s t : State) : Prop where
  mode : t.mode = s.mode
  cfg : t.cfg = s.cfg
  routes : t.routes = s.routes
  talks : t.talks = s.talks
  listens : t.listens = s.listens
  ports : t.ports = s.ports

theorem State.Spares.refl (s : State) : s.Spares s := ⟨rfl, rfl, rfl, rfl, rfl, rfl⟩

theorem State.Spares.trans {s t u : State} (h : s.Spares t) (g : t.Spares u) : s.Spares u where
  mode := g.mode.trans h.mode
  cfg := g.cfg.trans h.cfg
  routes := g.routes.trans h.routes
  talks := g.talks.trans h.talks
  listens := g.listens.trans h.listens
  ports := g.ports.trans h.ports

theorem State.Spares.trueStep {s t : State} (h : s.Spares t) : s.TrueStep t :=
  .of_eq (h.mode ▸ id) (.of_eq h.routes h.listens) h.routes h.talks h.cfg fun _ hk => h.ports ▸ hk

theorem State.ite_trueStep {s t u : State} {c : Prop} {_ : Decidable c} (ht : s.TrueStep t) (hu : s.TrueStep u) :
    s.TrueStep (if c then t else u) := by
  split
  · exact ht
  · exact hu

theorem State.ite_spares {s t u : State} {c : Prop} {_ : Decidable c} (ht : s.Spares t) (hu : s.Spares u) :
    s.Spares (if c then t else u) := by
  split
  · exact ht
  · exact hu

theorem State.reach_spares (s : State) (t : Nat) : s.Spares (s.reach t) := ⟨rfl, rfl, rfl, rfl, rfl, rfl⟩

theorem State.setRing_spares (s : State) (r : Ring) : s.Spares (s.setRing r) := ⟨rfl, rfl, rfl, rfl, rfl, rfl⟩

theorem State.count_spares (s : State) (f : Counters → Counters) : s.Spares (s.count f) := ⟨rfl, rfl, rfl, rfl, rfl, rfl⟩

theorem State.emit_spares (s : State) (e : Event) : s.Spares (s.emit e) := ⟨rfl, rfl, rfl, rfl, rfl, rfl⟩

theorem State.respond_spares (s : State) (c : BitVec 8) (r : Result) (w : RefusalReason) (ws : List Word) :
    s.Spares (s.respond c r w ws) := ⟨rfl, rfl, rfl, rfl, rfl, rfl⟩

/-! ### The ring interface -/

theorem State.completeCopy_spares (s : State) (c : Collect) (ws : List Word) : s.Spares (s.completeCopy c ws) := by
  unfold State.completeCopy
  split
  · exact .refl s
  · exact .refl s
  · split
    · split
      · exact s.setRing_spares _
      · exact s.count_spares _
    · exact s.count_spares _
  · exact State.ite_spares (s.setRing_spares _) (s.count_spares _)

theorem State.takeHeader_spares (s : State) (w : Word) : s.Spares (s.takeHeader w) := by
  refine State.ite_spares ((s.setRing_spares _).trans (State.count_spares _ _)) ?_
  refine State.ite_spares (s.setRing_spares _) (State.ite_spares (s.setRing_spares _) ?_)
  refine State.ite_spares (State.ite_spares ?_ (s.setRing_spares _)) (s.setRing_spares _)
  exact (s.setRing_spares _).trans (State.count_spares _ _)

theorem State.forwardWord_spares (s : State) (p : Path) (w : Word) (last : Bool) :
    s.Spares (s.forwardWord p w last).1 := by
  unfold State.forwardWord
  split
  · exact s.setRing_spares _
  · exact s.setRing_spares _
  · exact s.setRing_spares _
  · split
    · exact (s.setRing_spares _).trans (State.count_spares _ _)
    · exact s.setRing_spares _

theorem State.takeBody_spares (s : State) (m : Arrival) (w : Word) : s.Spares (s.takeBody m w) := by
  have hforward := s.forwardWord_spares m.path w (decide (m.left ≤ 1))
  unfold State.takeBody
  dsimp only
  split
  · exact (hforward.trans (State.setRing_spares _ _)).trans (State.completeCopy_spares _ _ _)
  · exact hforward.trans (State.setRing_spares _ _)

theorem State.dataWord_spares (s : State) (w : Word) : s.Spares (s.dataWord w) := by
  refine State.ite_spares (.refl s) (State.ite_spares (s.setRing_spares _) ?_)
  split
  · exact s.setRing_spares _
  · split
    · exact s.setRing_spares _
    · exact s.setRing_spares _
    · exact s.takeHeader_spares w
    · exact s.takeBody_spares _ w

theorem State.cutMessage_spares (s : State) : s.Spares s.cutMessage := by
  unfold State.cutMessage
  split
  case h_1 m _ =>
    have hcounted : s.Spares (if m.collect.collecting = true then s.count Counters.incPartial else s) :=
      State.ite_spares (s.count_spares _) (.refl s)
    dsimp only
    split
    · exact hcounted.trans (State.setRing_spares _ _)
    · exact hcounted
    · exact hcounted
    · exact hcounted
  all_goals exact .refl s

theorem State.idleSymbol_spares (s : State) : s.Spares s.idleSymbol := by
  refine State.ite_spares (.refl s) (State.ite_spares (s.setRing_spares _) ?_)
  split
  · exact s.setRing_spares _
  · exact s.cutMessage_spares.trans (State.setRing_spares _ _)

theorem State.loseAlignment_spares (s : State) : s.Spares s.loseAlignment := by
  have hlost := s.setRing_spares { s.ring with aligned := false, alignedAt := s.clock.now }
  have hcut := hlost.trans (State.cutMessage_spares _)
  refine State.ite_spares (State.ite_spares (hlost.trans (State.setRing_spares _ _)) ?_) (.refl s)
  exact State.ite_spares (hcut.trans (State.setRing_spares _ _)) (hcut.trans (State.setRing_spares _ _))

theorem State.selectBurst_spares (cs : List Cls) : ∀ s : State, s.Spares (State.selectBurst cs s).2 := by
  induction cs with
  | nil => exact fun s => .refl s
  | cons c cs ih =>
    intro s
    unfold State.selectBurst
    dsimp only
    split
    · exact ⟨rfl, rfl, rfl, rfl, rfl, rfl⟩
    · refine .trans ?_ (ih _)
      exact ⟨rfl, rfl, rfl, rfl, rfl, rfl⟩

theorem State.select_spares (s : State) : s.Spares s.select.2 := by
  unfold State.select
  split
  · exact ⟨rfl, rfl, rfl, rfl, rfl, rfl⟩
  · exact State.selectBurst_spares _ s

theorem execInsertionStart_spares (s : State) : ∃ t, execInsertionStart s = .next t ∧ s.Spares t := by
  have hselect := s.select_spares
  refine ⟨_, rfl, State.ite_spares ?_ (.refl s)⟩
  split
  case h_1 left hleft => rwa [hleft] at hselect
  case h_2 m left hleft =>
    rw [hleft] at hselect
    exact hselect.trans (State.setRing_spares _ _)

theorem State.recordInserted_spares (s : State) (m : Message) : s.Spares (s.recordInserted m) := by
  unfold State.recordInserted
  split
  · exact .refl s
  · exact ⟨rfl, rfl, rfl, rfl, rfl, rfl⟩

/-! ### The listen table -/

/-- Every entry as it was but for what its play, a burst or its station's absence changes. -/
def State.SameEntries (s t : State) : Prop :=
  ∀ k : Fin 32, (t.listens[k].map fun e => (e.source, e.refCount)) = s.listens[k].map fun e => (e.source, e.refCount)

theorem State.SameEntries.exists_entry {s t : State} (h : s.SameEntries t) {k : Fin 32} {e : ListenEntry}
    (he : t.listens[k] = some e) : ∃ x, s.listens[k] = some x ∧ e.source = x.source ∧ e.refCount = x.refCount := by
  have hk := h k
  rw [he, Option.map_some] at hk
  obtain ⟨x, hx, hxe⟩ := Option.map_eq_some_iff.1 hk.symm
  exact ⟨x, hx, (congrArg Prod.fst hxe).symm, (congrArg Prod.snd hxe).symm⟩

theorem State.SameEntries.findListen {s t : State} (h : s.SameEntries t) (r : Remote) : t.findListen r = s.findListen r := by
  unfold State.findListen
  congr 1
  funext k
  have hk := congrArg (Option.map Prod.fst) (h k)
  rw [Option.map_map, Option.map_map] at hk
  exact congrArg (· == some r) hk

theorem State.SameEntries.routeStep {s t : State} (h : s.SameEntries t) (hroutes : t.routes = s.routes) : s.RouteStep t where
  mixMinus := (State.RouteStep.of_eq (t := { s with routes := t.routes }) hroutes rfl).mixMinus
  bounded := (State.RouteStep.of_eq (t := { s with routes := t.routes }) hroutes rfl).bounded
  listens g := by
    refine ⟨fun k e he => ?_, fun r hr => ?_⟩
    · obtain ⟨x, hx, hsource, hcount⟩ := h.exists_entry he
      rw [hroutes, hsource, hcount, h.findListen]
      exact g.1 k x hx
    · rw [hroutes] at hr
      rw [h.findListen]
      exact g.2 r hr

theorem State.setListen_sameEntries (s : State) {k : Fin 32} {e x : ListenEntry} (he : s.listens[k] = some e)
    (hsource : x.source = e.source) (hcount : x.refCount = e.refCount) : s.SameEntries (s.setListen k (some x)) := by
  unfold State.SameEntries
  rw [State.setListen_listens]
  refine forall_vector_set (P := fun (j : Fin 32) (o : Option ListenEntry) =>
    (o.map fun e => (e.source, e.refCount)) = s.listens[j].map fun e => (e.source, e.refCount)) (fun _ => rfl) ?_
  rw [he, Option.map_some, Option.map_some, hsource, hcount]

/-- Routes, talks and ports as they were, and every listen entry for its source with its count. -/
structure State.ListenKept (s t : State) : Prop extends State.ListenStep s t where
  entries : s.SameEntries t

theorem State.ListenKept.refl (s : State) : s.ListenKept s := ⟨.refl s, fun _ => rfl⟩

theorem State.ListenKept.trans {s t u : State} (h : s.ListenKept t) (g : t.ListenKept u) : s.ListenKept u :=
  ⟨h.toListenStep.trans g.toListenStep, fun k => (g.entries k).trans (h.entries k)⟩

theorem foldl_listenKept {α : Type} (f : State → α → State) (hf : ∀ (s : State) (a : α), s.ListenKept (f s a)) (l : List α) :
    ∀ s : State, s.ListenKept (l.foldl f s) := by
  induction l with
  | nil => exact fun s => .refl s
  | cons a l ih => exact fun s => (hf s a).trans (ih (f s a))

theorem State.ListenKept.trueStep {s t : State} (h : s.ListenKept t) : s.TrueStep t :=
  .of_eq (h.mode ▸ id) (h.entries.routeStep h.routes) h.routes h.talks h.cfg fun _ hk => h.ports ▸ hk

theorem State.setListen_listenKept (s : State) {k : Fin 32} {e x : ListenEntry} (he : s.listens[k] = some e)
    (hsource : x.source = e.source) (hcount : x.refCount = e.refCount) : s.ListenKept (s.setListen k (some x)) :=
  ⟨s.setListen_listenStep _ _, s.setListen_sameEntries he hsource hcount⟩

theorem State.hand_listenKept (s : State) (n : Note) : s.ListenKept (s.hand n) :=
  ⟨s.hand_listenStep n, fun k => by rw [State.hand_listens]⟩

theorem State.count_listenKept (s : State) (f : Counters → Counters) : s.ListenKept (s.count f) :=
  ⟨s.count_listenStep f, fun _ => rfl⟩

theorem State.handJoin_listenKept (s : State) (k : Fin 32) : s.ListenKept (s.handJoin k) := by
  unfold State.handJoin
  split
  · exact .refl s
  case h_2 e he =>
    exact (s.setListen_listenKept (x := { e with lastJoin := some s.clock.now }) he rfl rfl).trans
      (State.hand_listenKept _ _)

theorem State.absentListen_listenKept (st : Station) (s : State) (k : Fin 32) :
    s.ListenKept (State.absentListen st s k) := by
  unfold State.absentListen
  split
  · exact .refl s
  case h_2 he =>
    split
    · exact s.setListen_listenKept he rfl rfl
    · exact .refl s

theorem State.returnListen_listenKept (st : Station) (s : State) (k : Fin 32) :
    s.ListenKept (State.returnListen st s k) := by
  unfold State.returnListen
  split
  · exact .refl s
  case h_2 e he =>
    split
    · exact (s.setListen_listenKept (x := { e with absent := false }) he rfl rfl).trans (State.handJoin_listenKept _ _)
    · exact .refl s

theorem State.listenAbsence_listenKept (s : State) (st : Station) : s.ListenKept (s.listenAbsence st) :=
  foldl_listenKept _ (State.absentListen_listenKept st) _ s

theorem State.listenReturn_listenKept (s : State) (st : Station) : s.ListenKept (s.listenReturn st) :=
  foldl_listenKept _ (State.returnListen_listenKept st) _ s

theorem ListenEntry.endPriming_entry (e : ListenEntry) (target : Nat) :
    (e.endPriming target).source = e.source ∧ (e.endPriming target).refCount = e.refCount := by
  unfold ListenEntry.endPriming
  split <;> exact ⟨rfl, rfl⟩

theorem ListenEntry.arrive_entry (e : ListenEntry) (target : Nat) (q : Seq) (b : Block) :
    (e.arrive target q b).1.source = e.source ∧ (e.arrive target q b).1.refCount = e.refCount := by
  unfold ListenEntry.arrive
  split
  · exact (e.prime q b).endPriming_entry target
  · exact (e.prime q b).endPriming_entry target
  · dsimp only
    split
    · exact ⟨rfl, rfl⟩
    · split
      · exact (({ e with resync := satInc e.resync } : ListenEntry).prime q b).endPriming_entry target
      · split
        · exact ⟨rfl, rfl⟩
        · exact ({ e with buffer := e.buffer ++ [⟨q, b⟩] } : ListenEntry).endPriming_entry target

theorem State.takeBurst_listenKept (s : State) (o : Station) (i : Fin 32) (q : Seq) (b : Block) :
    s.ListenKept (s.takeBurst o i q b) := by
  unfold State.takeBurst
  split
  · split
    · exact .refl s
    · split
      · exact .refl s
      case h_2 e he =>
        obtain ⟨hsource, hcount⟩ := e.arrive_entry s.cfg.jitterTarget q b
        exact (s.setListen_listenKept he hsource hcount).trans (State.count_listenKept _ _)
  · exact .refl s

theorem ListenEntry.playOne_entry (e : ListenEntry) :
    e.playOne.2.1.source = e.source ∧ e.playOne.2.1.refCount = e.refCount := by
  unfold ListenEntry.playOne
  split
  · split
    · exact ⟨rfl, rfl⟩
    · unfold ListenEntry.missed
      dsimp only
      split <;> exact ⟨rfl, rfl⟩
  · exact ⟨rfl, rfl⟩

theorem State.withListens_trueStep (s : State) {v : Vector (Option ListenEntry) 32}
    (h : ∀ k : Fin 32, (v[k].map fun e => (e.source, e.refCount)) = s.listens[k].map fun e => (e.source, e.refCount)) :
    s.TrueStep { s with listens := v } := by
  have hentries : s.SameEntries { s with listens := v } := h
  exact .of_eq id (hentries.routeStep rfl) rfl rfl rfl fun _ => id

theorem State.playAll_trueStep (s : State) : s.TrueStep s.playAll := by
  rw [State.playAll_eq]
  refine (s.withListens_trueStep fun k => ?_).trans (State.count_spares _ _).trueStep
  rw [Fin.getElem_fin, Vector.getElem_ofFn, Option.map_map]
  refine congrArg (fun f => Option.map f s.listens[k]) (funext fun e => ?_)
  exact Prod.ext e.playOne_entry.1 e.playOne_entry.2

end Sys2Proof.Machine

/-!
SUPPORT. The field ports, the roster, local audio and the commands of the control port keep the tables true to each
other; then so does every command of a configured station.
-/

namespace Sys2Proof.Machine

/-! ### Field ports -/

/-- A port is replaced: by one in an admitted state where it was in one, or where no talk is on its return mix. -/
theorem State.setPort_trueStep (s : State) {k : PortNo} {p : Port} (h : s.talks[returnMix k] = ⟨[], []⟩ ∨
    (s.ports[k].state.admitted = true → p.state.admitted = true)) : s.TrueStep (s.setPort k p) where
  mode := id
  routes := .of_eq rfl rfl
  slots := id
  keys := id
  holders := id
  admitted g := fun j => by
    rw [State.setPort_ports, vector_set_getElem]
    split
    case isTrue heq =>
      subst heq
      rcases h with hempty | hstate
      · exact .inl hempty
      · exact (g k).imp_right hstate
    case isFalse => exact g j

theorem State.setPort_same_trueStep (s : State) {k : PortNo} {p : Port} (h : p.state = s.ports[k].state) :
    s.TrueStep (s.setPort k p) := s.setPort_trueStep (.inr fun hk => h ▸ hk)

theorem State.movePort_trueStep (s : State) {k : PortNo} {p : Port} (f : PortFault)
    (h : s.ports[k].state.admitted = true → p.state.admitted = true) : s.TrueStep (s.movePort k p f) :=
  (s.setPort_trueStep (.inr h)).trans (State.emit_spares _ _).trueStep

/-- A port that leaves its admitted states has no talk on its return mix from then on (R62, R171). -/
theorem State.toIdle_trueStep (s : State) {k : PortNo} {p : Port} (f : PortFault) (h : p.state = s.ports[k].state) :
    s.TrueStep (s.toIdle k p f) := by
  unfold State.toIdle
  dsimp only
  split
  case isTrue =>
    have hremoved := State.clearReturnMix_removed (s.fieldEvent k p.state (p.idled f) f) k
    have hfirst : s.TrueStep ((s.fieldEvent k p.state (p.idled f) f).clearReturnMix k) :=
      (s.emit_spares _).trueStep.trans hremoved.tablesStep.trueStep
    refine (hfirst.trans (State.releasePortTalk_trueStep _ k)).trans (State.setPort_trueStep _ (.inl ?_))
    exact State.releasePortTalk_empty _ k hremoved.left
  case isFalse hstate =>
    refine s.movePort_trueStep f fun hk => ?_
    rw [h] at hstate
    exact absurd hk hstate

theorem State.completeTraining_trueStep (s : State) {k : PortNo} {p : Port} (h : p.state = s.ports[k].state)
    (hstate : p.state = .training ∨ p.state = .retraining) : s.TrueStep (s.completeTraining k p) := by
  unfold State.completeTraining
  split
  · exact s.toIdle_trueStep _ h
  · dsimp only
    split
    · exact s.movePort_trueStep _ fun _ => rfl
    case isFalse hne =>
      split
      · exact s.movePort_trueStep _ fun _ => rfl
      · refine s.movePort_trueStep _ fun hk => ?_
        rw [← h, hstate.resolve_right hne] at hk
        cases hk

theorem State.nextStamp_trueStep (s : State) {k : PortNo} {p : Port} (h : p.state = s.ports[k].state)
    (hstate : p.state = .training ∨ p.state = .retraining) : s.TrueStep (s.nextStamp k p) :=
  State.ite_trueStep (s.completeTraining_trueStep h hstate) (s.setPort_same_trueStep h)

theorem State.takeCode_trueStep (s : State) {k : PortNo} {p : Port} (x : Sample) (h : p.state = s.ports[k].state)
    (hstate : p.state = .checking) : s.TrueStep (s.takeCode k p x) := by
  refine State.ite_trueStep ?_ (s.setPort_same_trueStep h)
  unfold State.compareCode
  dsimp only
  split
  · exact s.movePort_trueStep _ fun _ => rfl
  · split
    · exact s.toIdle_trueStep _ h
    · refine s.movePort_trueStep _ fun hk => ?_
      rw [← h, hstate] at hk
      cases hk

theorem State.takeSample_trueStep (s : State) {k : PortNo} {p : Port} (x : Sample) (h : p.state = s.ports[k].state) :
    s.TrueStep (s.takeSample k p x) :=
  State.ite_trueStep (s.setPort_same_trueStep h) (s.count_spares _).trueStep

/-- A word keeps the tables true if what it does to a port that has heard it does. -/
theorem State.takeWord_trueStep (s : State) (k : PortNo) (own : State → Port → State)
    (hown : ∀ (u : State) (p : Port), p.state = u.ports[k].state → u.TrueStep (own u p)) :
    s.TrueStep (s.takeWord k own) := by
  unfold State.takeWord
  dsimp only
  split
  · exact .refl s
  · refine .trans (s.setPort_same_trueStep ?_) (hown _ _ ?_)
    · exact rfl
    · rw [State.setPort_ports, vector_set_getElem_self]

theorem Port.driftChecked_state (p : Port) : p.driftChecked.state = p.state := by
  unfold Port.driftChecked
  split <;> rfl

theorem State.portCompletion_trueStep (s : State) (k : PortNo) : s.TrueStep (s.portCompletion k) := by
  unfold State.portCompletion
  dsimp only
  split
  · exact State.ite_trueStep (s.movePort_trueStep _ fun _ => rfl) (s.setPort_same_trueStep rfl)
  · exact s.setPort_same_trueStep (Port.driftChecked_state _)
  · exact .refl s

theorem Port.produce_state (p : Port) (y : Sample) : (p.produce y).state = p.state := by
  unfold Port.produce
  dsimp only
  split <;> rfl

theorem State.deliverReturn_trueStep (s : State) (k : PortNo) (b : Block) : s.TrueStep (s.deliverReturn k b) := by
  have hplaced := s.setPort_same_trueStep (k := k)
    (p := { s.ports[k] with outbound := s.ports[k].outbound.drop (s.ports[k].outbound.length - 48) ++ b.toList }) rfl
  exact State.ite_trueStep (State.ite_trueStep (hplaced.trans (State.count_spares _ _).trueStep) hplaced) (.refl s)

/-! ### The roster -/

theorem State.announce_trueStep (s : State) : s.TrueStep s.announce :=
  State.ite_trueStep (s.hand_answerStep _).trueStep (.refl s)

theorem State.withSends_spares (s : State) (v : Vector (List Subscriber) 24) : s.Spares { s with sends := v } :=
  ⟨rfl, rfl, rfl, rfl, rfl, rfl⟩

theorem State.setRecord_spares (s : State) (st : Station) (r : RosterRecord) : s.Spares (s.setRecord st r) := by
  unfold State.setRecord
  split
  · exact ⟨rfl, rfl, rfl, rfl, rfl, rfl⟩
  · exact .refl s

theorem State.reportAbsence_trueStep (s : State) (st : Station) : s.TrueStep (s.reportAbsence st) :=
  (((s.withSends_spares _).trueStep.trans (State.arbiterAbsence_tablesStep _ st).trueStep).trans
    (State.talkerAbsence_answerStep _ st).trueStep).trans (State.listenAbsence_listenKept _ st).trueStep

theorem State.takePresence_trueStep (s : State) (st : Station) (hop : Fin 64) (q : Seq) (l d : BitVec 8) :
    s.TrueStep (s.takePresence st hop q l d) := by
  have hheard := (s.setRecord_spares st ⟨true, some q, some s.clock.now, hop, l, d⟩).trueStep
  unfold State.takePresence
  dsimp only
  split
  · split
    · refine State.ite_trueStep hheard ?_
      exact ((hheard.trans (State.emit_spares _ _).trueStep).trans (State.reportAbsence_trueStep _ _)).trans
        (State.listenReturn_listenKept _ _).trueStep
    · exact (hheard.trans (State.emit_spares _ _).trueStep).trans (State.listenReturn_listenKept _ _).trueStep
  · exact .refl s

theorem State.silenced_trueStep (s : State) (q : Scheduler) : s.TrueStep { s with mode := .silent, sched := q } :=
  .of_eq (fun _ => nofun) (.of_eq rfl rfl) rfl rfl rfl fun _ => id

theorem State.duplicate_trueStep (s : State) (q : Seq) : s.TrueStep (s.duplicate q) := by
  unfold State.duplicate
  split
  · exact (s.silenced_trueStep s.sched.flush).trans (State.emit_spares _ _).trueStep
  · exact .refl s
  · exact .refl s

theorem State.setSend_spares (s : State) (n : SourceNo) (l : List Subscriber) : s.Spares (s.setSend n l) :=
  ⟨rfl, rfl, rfl, rfl, rfl, rfl⟩

theorem State.takeJoin_spares (s : State) (st : Station) (i : Fin 32) (c : Cls) : s.Spares (s.takeJoin st i c) := by
  unfold State.takeJoin
  split
  · exact State.ite_spares (s.setSend_spares _ _) (.refl s)
  · exact s.count_spares _

theorem State.takeLeave_spares (s : State) (st : Station) (i : Fin 32) : s.Spares (s.takeLeave st i) := by
  unfold State.takeLeave
  split
  · exact s.setSend_spares _ _
  · exact s.count_spares _

/-! ### Local audio -/

theorem State.ageQueues_spares (s : State) : s.Spares s.ageQueues := ⟨rfl, rfl, rfl, rfl, rfl, rfl⟩

theorem State.appendBurst_spares (s : State) (b : Burst) : s.Spares (s.appendBurst b) :=
  State.ite_spares ⟨rfl, rfl, rfl, rfl, rfl, rfl⟩ ⟨rfl, rfl, rfl, rfl, rfl, rfl⟩

theorem foldl_spares {α : Type} (f : State → α → State) (hf : ∀ (s : State) (a : α), s.Spares (f s a)) (l : List α) :
    ∀ s : State, s.Spares (l.foldl f s) := by
  induction l with
  | nil => exact fun s => .refl s
  | cons a l ih => exact fun s => (hf s a).trans (ih (f s a))

theorem State.captureAll_spares (s : State) (seen : PortNo → Bool) : s.Spares (s.captureAll seen) := by
  refine foldl_spares _ (fun s n => ?_) _ s
  unfold State.captureOne
  split
  · exact s.appendBurst_spares _
  · exact .refl s

theorem State.withAudio_spares (s : State) (v : Vector MixState 24) (a : Audio) (n : Nat) :
    s.Spares { s with mixes := v, audio := a, choices := n } := ⟨rfl, rfl, rfl, rfl, rfl, rfl⟩

theorem State.startPass_trueStep (s : State) (seen : PortNo → Bool) : s.TrueStep (s.startPass seen) := by
  rw [State.startPass_eq]
  exact (s.withAudio_spares _ _ s.choices).trueStep.trans (State.playAll_trueStep _)

theorem State.protectMix_spares (pass : Pass) (s : State) (m : Mix) : s.Spares (State.protectMix pass s m) := by
  unfold State.protectMix
  dsimp only
  split
  · exact ⟨rfl, rfl, rfl, rfl, rfl, rfl⟩
  · exact ⟨rfl, rfl, rfl, rfl, rfl, rfl⟩

theorem State.endPass_trueStep (s : State) : s.TrueStep s.endPass := by
  unfold State.endPass
  split
  · exact .refl s
  case h_2 pass _ =>
    have hlines : s.TrueStep (s.deliverLines pass) := (s.withAudio_spares s.mixes _ s.choices).trueStep
    have hreturns := hlines.trans (foldl_trueStep _ (fun s k => s.deliverReturn_trueStep k (mixBlock pass.mixes[returnMix k]))
      (List.finRange 8) _)
    refine (hreturns.trans (foldl_spares _ (State.protectMix_spares pass) (List.finRange 24) _).trueStep).trans ?_
    exact (State.withAudio_spares _ _ _ _).trueStep

theorem State.blockCompletion_trueStep (s : State) (l : List (Vector Sample 16)) : s.TrueStep (s.blockCompletion l) := by
  have hcompleted := (s.withAudio_spares s.mixes (s.audio.complete l) (s.choices + 1)).trueStep
  unfold State.blockCompletion
  dsimp only
  refine .trans ?_ (foldl_trueStep _ State.portCompletion_trueStep _ _)
  refine .trans (.trans ?_ (State.ageQueues_spares _).trueStep) (State.captureAll_spares _ _).trueStep
  exact (hcompleted.trans (State.endPass_trueStep _)).trans (State.ite_trueStep (State.startPass_trueStep _ _) (.refl _))

/-! ### SET-ROUTE -/

/-- The entries of one mix change, their holders counting the GRANTED records as before, and the listen table is told. -/
theorem State.setRoutes_tell_trueStep {s : State} {m : Mix} {l : List Route} {rs : List Remote}
    (h : s.RouteStep ((s.setRoutes m l).tellListens rs))
    (hheld : EntriesHeld s.routes[m] (heldInputs s.cfg.number s.talks[m].granted) →
      EntriesHeld l (heldInputs s.cfg.number s.talks[m].granted)) : s.TrueStep ((s.setRoutes m l).tellListens rs) := by
  have htell := State.tellListens_listenStep (s.setRoutes m l) rs
  have htalks : ((s.setRoutes m l).tellListens rs).talks = s.talks := htell.talks
  have hcfg : ((s.setRoutes m l).tellListens rs).cfg = s.cfg := htell.cfg
  have hports : ((s.setRoutes m l).tellListens rs).ports = s.ports := htell.ports
  have hmode : ((s.setRoutes m l).tellListens rs).mode = s.mode := htell.mode
  refine ⟨fun g => hmode ▸ g, h, fun g => ?_, fun g => ?_, fun g => ?_, fun g => ?_⟩
  · unfold State.SlotsFilled at g ⊢
    rwa [htalks]
  · unfold State.KeysUnique at g ⊢
    rwa [htalks]
  · unfold State.ReturnTalksAdmitted at g ⊢
    rwa [htalks, hports]
  · rw [State.holdersCountGranted_iff] at g ⊢
    intro m'
    rw [htalks, hcfg, htell.routes, State.setRoutes_routes, vector_set_getElem]
    split
    case isTrue heq =>
      subst heq
      exact hheld (g m)
    case isFalse => exact g m'

theorem State.routeSet_trueStep (s : State) (r : RouteArgs) (h : r.level ≠ 0) : s.TrueStep (s.routeSet r) := by
  refine State.setRoutes_tell_trueStep (s.routeSet_routeStep r) fun g => g.change (fun e => ?_) (fun e => ?_) fun e he => ?_
  · split <;> rfl
  · split <;> rfl
  · split
    · exact he
    · exact .inl (Nat.pos_of_ne_zero h)

theorem State.routeClear_trueStep (s : State) (r : RouteArgs) : s.TrueStep (s.routeClear r) :=
  State.setRoutes_tell_trueStep (s.routeClear_routeStep r) fun g => g.clear _ _ _

theorem State.routeCreate_trueStep (s : State) (r : RouteArgs) (hlevel : r.level ≠ 0) (hloop : loops r.mix r.input = false)
    (hnew : hasRoute s.routes[r.mix] r.input = false) (hspace : s.spaceTest r.mix r.input 0 = none) :
    s.TrueStep (s.routeCreate r) :=
  State.setRoutes_tell_trueStep (s.routeCreate_routeStep r hloop hspace) fun g =>
    g.append hnew (g.count_eq_zero hnew).symm (.inl (Nat.pos_of_ne_zero hlevel)) (fun _ _ => rfl) fun _ => .inl

theorem State.routeCommand_trueStep (s : State) (r : RouteArgs) (hloop : loops r.mix r.input = false) :
    s.TrueStep (s.routeCommand r) := by
  unfold State.routeCommand
  split
  · refine .trans ?_ (State.respond_spares _ _ _ _ _).trueStep
    split
    · exact s.routeClear_trueStep r
    case isFalse hlevel => exact s.routeSet_trueStep r hlevel
  case isFalse hnew =>
    split
    · exact (s.respond_spares _ _ _ _).trueStep
    case isFalse hlevel =>
      split
      · exact (s.respond_spares _ _ _ _).trueStep
      case h_2 hspace =>
        exact (s.routeCreate_trueStep r hlevel hloop (Bool.not_eq_true _ ▸ hnew) hspace).trans
          (State.respond_spares _ _ _ _ _).trueStep

/-! ### Commands and copies -/

theorem State.command_trueStep (s : State) (code : BitVec 8) (n : Nat) (args : List Word) (own : State → State)
    (hown : s.TrueStep (own s)) : s.TrueStep (s.command code n args own) :=
  State.ite_trueStep hown (s.respond_spares _ _ _ _).trueStep

theorem State.configuredCommand_trueStep (s : State) (code : BitVec 8) (n : Nat) (args : List Word) (own : State → State)
    (hown : s.TrueStep (own s)) : s.TrueStep (s.configuredCommand code n args own) :=
  s.command_trueStep code n args _ (State.ite_trueStep hown (s.respond_spares _ _ _ _).trueStep)

theorem State.read_spares (s : State) (code : BitVec 8) (n : Nat) (args : List Word) (words : Fin n → List Word) :
    s.Spares (s.read code n args words) := by
  refine State.ite_spares ?_ (s.respond_spares _ _ _ _)
  split
  · exact s.respond_spares _ _ _ _
  · exact s.respond_spares _ _ _ _

/-- A copy handed on keeps the tables true if its owner does. -/
theorem State.handOn_trueStep (s : State) (c : Instr) (good : Bool) (owner : State → State)
    (hown : ∀ u : State, u.TrueStep (owner u)) : s.TrueStep (s.handOn c good owner) := by
  refine State.ite_trueStep ?_ (s.count_spares _).trueStep
  split
  · exact hown s
  · exact State.ite_trueStep ((s.setRing_spares _).trueStep.trans (hown _)) (.refl s)

theorem State.dispatchOwn_trueStep (s : State) (target : Station) (owner : State → State)
    (hown : ∀ u : State, u.TrueStep (owner u)) : s.TrueStep (s.dispatchOwn target owner) :=
  State.ite_trueStep (s.count_spares _).trueStep (hown s)

theorem State.takeTalkState_trueStep (s : State) (o : Station) (n : TalkNo) (m : Fin 32) (st : Fin 8) (re : Fin 16) :
    s.TrueStep (s.takeTalkState o n m st re) := by
  unfold State.takeTalkState
  split
  · exact (s.takeReply_answerStep _ _).trueStep
  · exact (s.count_spares _).trueStep

end Sys2Proof.Machine

/-!
SUPPORT. Every command but CONFIGURE and the device reset keeps the tables true to each other, from any state; these two
start from an empty station or leave one. An UNCONFIGURED station stays empty.
-/

namespace Sys2Proof.Machine

/-- A command completes and keeps the tables true to each other. -/
def State.Truthful (s : State) (o : Host.Outcome State Fault Refusal) : Prop := ∃ t, o = .next t ∧ s.TrueStep t

theorem State.TrueStep.truthful {s t : State} (h : s.TrueStep t) : s.Truthful (.next t) := ⟨t, rfl, h⟩

theorem State.Spares.truthful {s t : State} (h : s.Spares t) : s.Truthful (.next t) := h.trueStep.truthful

/-! ### Commands of the control port -/

theorem execKeyDown_truthful (args : List Word) (s : State) : s.Truthful (execKeyDown args s) := by
  refine (s.configuredCommand_trueStep _ _ _ _ ?_).truthful
  split
  · exact (s.respond_spares _ _ _ _).trueStep
  · split
    · exact (s.respond_spares _ _ _ _).trueStep
    · exact (s.createTalk_trueStep _ _).trans (State.respond_spares _ _ _ _ _).trueStep

theorem execKeyUp_truthful (args : List Word) (s : State) : s.Truthful (execKeyUp args s) := by
  refine (s.configuredCommand_trueStep _ _ _ _ ?_).truthful
  split
  · exact (s.respond_spares _ _ _ _).trueStep
  · exact (s.releaseTalk_trueStep _).trans (State.respond_spares _ _ _ _ _).trueStep

theorem execSetRoute_truthful (args : List Word) (s : State) : s.Truthful (execSetRoute args s) := by
  refine (s.configuredCommand_trueStep _ _ _ _ ?_).truthful
  split
  · exact (s.respond_spares _ _ _ _).trueStep
  · split
    · exact (s.respond_spares _ _ _ _).trueStep
    case isFalse hloop => exact s.routeCommand_trueStep _ (Bool.not_eq_true _ ▸ hloop)

theorem execFieldReset_truthful (args : List Word) (s : State) : s.Truthful (execFieldReset args s) := by
  refine (s.configuredCommand_trueStep _ _ _ _ ?_).truthful
  split
  · exact (s.respond_spares _ _ _ _).trueStep
  case h_2 k _ =>
    refine State.ite_trueStep (s.respond_spares _ _ _ _).trueStep ?_
    exact (s.toIdle_trueStep (p := { s.ports[k] with failures := 0 }) _ rfl).trans (State.respond_spares _ _ _ _ _).trueStep

theorem execReadRoster_truthful (args : List Word) (s : State) : s.Truthful (execReadRoster args s) :=
  (s.command_trueStep _ _ _ _ (s.respond_spares _ _ _ _).trueStep).truthful

theorem State.answered_spares (s : State) (r f : Option Response) (b : Bool) (c : Counters) (q : EventQueue) :
    s.Spares { s with response := r, selected := b, frameReply := f, counters := c, events := q } :=
  ⟨rfl, rfl, rfl, rfl, rfl, rfl⟩

theorem execReadCounters_truthful (args : List Word) (s : State) : s.Truthful (execReadCounters args s) :=
  (s.command_trueStep _ _ _ _ (s.answered_spares _ _ _ _ _).trueStep).truthful

theorem execNextEvent_truthful (args : List Word) (s : State) : s.Truthful (execNextEvent args s) := by
  refine (s.command_trueStep _ _ _ _ ?_).truthful
  split
  · exact (s.answered_spares _ _ _ _ _).trueStep
  · exact (s.answered_spares _ _ _ _ _).trueStep

theorem execFrameAbort_truthful (received : List Word) (s : State) : s.Truthful (execFrameAbort received s) := by
  have hanswered := fun r f b => (s.answered_spares r f b s.counters s.events).trueStep
  refine State.TrueStep.truthful ?_
  split
  · exact State.ite_trueStep (hanswered _ _ _) (hanswered _ _ _)
  · exact State.ite_trueStep (hanswered _ _ _) (State.ite_trueStep (hanswered _ _ _) (hanswered _ _ _))

/-! ### Local audio and field ports -/

theorem execLocalSample_truthful (x : Vector Sample 16) (s : State) : s.Truthful (execLocalSample x s) := by
  have hfilled := ((s.reach_spares (s.audio.sampleAt + Config.countsPerSample)).trans (State.withAudio_spares _ s.mixes
    { s.audio with current := s.audio.current ++ [x], sampleAt := s.audio.sampleAt + Config.countsPerSample }
    s.choices)).trueStep
  exact (State.ite_trueStep (hfilled.trans (State.blockCompletion_trueStep _ _)) hfilled).truthful

theorem execInboundSampleMoment_truthful (k : PortNo) (s : State) : s.Truthful (execInboundSampleMoment k s) := by
  have hreach := fun t => (s.reach_spares t).trueStep
  refine (State.ite_trueStep ?_ (.refl s)).truthful
  split
  · exact (hreach _).trans (State.setPort_same_trueStep _ (Port.produce_state _ _))
  · exact ((hreach _).trans (State.setPort_same_trueStep _ (Port.produce_state _ _))).trans (State.count_spares _ _).trueStep

theorem execOutboundWordRequest_truthful (k : PortNo) (s : State) : s.Truthful (execOutboundWordRequest k s) := by
  refine (State.ite_trueStep ?_ ?_).truthful
  case refine_2 => exact s.setPort_same_trueStep (p := { s.ports[k] with sent := some idleFieldWord }) rfl
  split
  · exact s.setPort_same_trueStep rfl
  · refine .trans ?_ (State.count_spares _ _).trueStep
    exact s.setPort_same_trueStep (p := { s.ports[k] with sent := some (sampleFieldWord s.ports[k].lastOut) }) rfl

theorem execTrainWord_truthful (k : PortNo) (s : State) : s.Truthful (execTrainWord k s) := by
  refine (s.takeWord_trueStep k _ fun u p hp => ?_).truthful
  split
  case h_1 hstate =>
    refine u.movePort_trueStep _ fun hk => ?_
    rw [← hp, hstate] at hk
    cases hk
  case h_2 hstate => exact u.nextStamp_trueStep hp (.inl hstate)
  case h_3 hstate => exact u.nextStamp_trueStep hp (.inr hstate)
  case h_4 => exact u.toIdle_trueStep _ hp
  case h_5 => exact u.movePort_trueStep _ fun _ => rfl
  case h_6 => exact u.movePort_trueStep _ fun _ => rfl
  all_goals exact .refl u

theorem execCodeWord_truthful (k : PortNo) (x : Sample) (s : State) : s.Truthful (execCodeWord k x s) := by
  refine (s.takeWord_trueStep k _ fun u p hp => ?_).truthful
  split
  case h_1 hstate => exact u.takeCode_trueStep _ hp hstate
  case h_2 | h_3 => exact u.toIdle_trueStep _ hp
  all_goals exact .refl u

theorem execSampleWord_truthful (k : PortNo) (x : Sample) (s : State) : s.Truthful (execSampleWord k x s) := by
  refine (s.takeWord_trueStep k _ fun u p hp => ?_).truthful
  split
  case h_1 | h_2 => exact u.takeSample_trueStep _ hp
  case h_3 | h_4 | h_5 => exact u.toIdle_trueStep _ hp
  all_goals exact .refl u

theorem execTalkOnWord_truthful (k : PortNo) (s : State) : s.Truthful (execTalkOnWord k s) := by
  refine (s.takeWord_trueStep k _ fun u p hp => ?_).truthful
  split
  case h_1 => exact u.portTalkOn_trueStep _
  case h_2 | h_3 | h_4 => exact u.toIdle_trueStep _ hp
  all_goals exact .refl u

theorem execTalkOffWord_truthful (k : PortNo) (s : State) : s.Truthful (execTalkOffWord k s) := by
  refine (s.takeWord_trueStep k _ fun u p hp => ?_).truthful
  split
  case h_1 | h_2 => exact u.releasePortTalk_trueStep _
  case h_3 | h_4 | h_5 => exact u.toIdle_trueStep _ hp
  all_goals exact .refl u

theorem execEndWord_truthful (k : PortNo) (s : State) : s.Truthful (execEndWord k s) := by
  refine (s.takeWord_trueStep k _ fun u p hp => ?_).truthful
  split
  case h_1 | h_2 | h_3 | h_4 | h_5 => exact u.toIdle_trueStep _ hp
  all_goals exact .refl u

theorem execIdleWord_truthful (k : PortNo) (i : Fin 16) (s : State) : s.Truthful (execIdleWord k i s) := by
  refine (s.takeWord_trueStep k _ fun u p hp => ?_).truthful
  split
  case h_1 | h_2 => exact u.toIdle_trueStep _ hp
  all_goals exact .refl u

/-- A timer of a port that runs out sends it to IDLE, or does nothing. -/
theorem State.portTimer_trueStep (s : State) (due : Option Nat) (c : Prop) [Decidable c] {k : PortNo} {p : Port}
    (f : PortFault) : p.state = s.ports[k].state →
    s.TrueStep (match due with
      | some t => if c then (s.reach t).toIdle k p f else s
      | none => s) := by
  intro h
  split
  · exact State.ite_trueStep ((s.reach_spares _).trueStep.trans (State.toIdle_trueStep _ _ h)) (.refl s)
  · exact .refl s

/-! ### The timers of the tables -/

theorem State.reach_lapse_trueStep (s : State) (due : Nat) (m : Mix) {t : InTalk} {g : Bool}
    (h : g = true → t ∈ s.talks[m].granted) : s.TrueStep ((s.reach due).lapse m t g) :=
  (s.reach_spares due).trueStep.trans (State.lapse_endStep (s.reach due) m h).tablesStep.trueStep

theorem execLapseTimerExpiry_truthful (o : Station) (n : TalkNo) (m : Mix) (s : State) :
    s.Truthful (execLapseTimerExpiry o n m s) := by
  refine State.TrueStep.truthful ?_
  split
  case h_1 t ht => exact s.reach_lapse_trueStep _ m fun _ => List.mem_of_find?_eq_some ht
  case h_2 =>
    split
    · exact s.reach_lapse_trueStep _ m nofun
    · exact .refl s

theorem execRefreshTimerExpiry_truthful (n : TalkNo) (s : State) : s.Truthful (execRefreshTimerExpiry n s) := by
  refine State.TrueStep.truthful ?_
  split
  · exact .refl s
  · exact ((s.reach_spares _).trueStep.trans (State.setOut_trueStep _ _ _)).trans
      (State.sendTalk_tablesStep _ _ _).trueStep

theorem State.putSummed_trueStep (s : State) (n : TalkNo) (b : Summary) (x : OutTalk) : s.TrueStep (s.putSummed n b x) :=
  State.ite_trueStep (s.setOut_trueStep _ _) ((s.setOut_trueStep _ _).trans (State.emit_spares _ _).trueStep)

theorem execUnansweredTimerExpiry_truthful (n : TalkNo) (s : State) : s.Truthful (execUnansweredTimerExpiry n s) := by
  refine State.TrueStep.truthful ?_
  split
  · exact .refl s
  case h_2 x _ =>
    refine State.ite_trueStep (.refl s) (.trans (s.reach_spares (x.created + Config.ms 150)).trueStep ?_)
    exact State.ite_trueStep (State.putSummed_trueStep _ _ _ _) (State.setOut_trueStep _ _ _)

theorem State.withPresenceDue_spares (s : State) (d : Option Nat) : s.Spares { s with presenceDue := d } :=
  ⟨rfl, rfl, rfl, rfl, rfl, rfl⟩

theorem execPresenceTimerExpiry_truthful (s : State) : s.Truthful (execPresenceTimerExpiry s) := by
  refine State.TrueStep.truthful ?_
  split
  · exact ((s.reach_spares _).trans (State.withPresenceDue_spares _ _)).trueStep.trans (State.announce_trueStep _)
  · exact .refl s

theorem execAbsenceTimerExpiry_truthful (o : Station) (s : State) : s.Truthful (execAbsenceTimerExpiry o s) := by
  refine State.TrueStep.truthful ?_
  split
  · dsimp only
    split
    · exact (((s.reach_spares _).trans (State.setRecord_spares _ _ _)).trans (State.emit_spares _ _)).trueStep.trans
        (State.reportAbsence_trueStep _ _)
    · exact .refl s
  · exact .refl s

theorem execSubscriberExpiry_truthful (n : SourceNo) (o : Station) (s : State) :
    s.Truthful (execSubscriberExpiry n o s) := by
  refine State.TrueStep.truthful ?_
  split
  · exact ((s.reach_spares _).trans (State.setSend_spares _ _ _)).trueStep
  · exact .refl s

theorem execJoinRefreshExpiry_truthful (k : Fin 32) (s : State) : s.Truthful (execJoinRefreshExpiry k s) := by
  refine State.TrueStep.truthful ?_
  split
  · exact .refl s
  · split
    · exact (s.reach_spares _).trueStep.trans (State.handJoin_listenKept _ _).trueStep
    · exact .refl s

/-! ### The ring interface and copies -/

theorem execRingDown_truthful (s : State) : s.Truthful (execRingDown s) :=
  (State.ite_spares (((s.reach_spares _).trans (State.setRing_spares _ _)).trans (State.emit_spares _ _)) (.refl s)).truthful

theorem execRingUp_truthful (s : State) : s.Truthful (execRingUp s) :=
  (State.ite_spares (((s.reach_spares _).trans (State.setRing_spares _ _)).trans (State.emit_spares _ _)) (.refl s)).truthful

theorem execInsertionEnd_truthful (s : State) : s.Truthful (execInsertionEnd s) := by
  refine State.Spares.truthful ?_
  split
  · exact .refl s
  · exact (s.setRing_spares _).trans (State.recordInserted_spares _ _)

/-- A copy that may be taken keeps the tables true if its owner does. -/
theorem State.copy_truthful (s : State) (c : Prop) [Decidable c] (i : Instr) (good : Bool) (owner : State → State)
    (hown : ∀ u : State, u.TrueStep (owner u)) : s.Truthful (.next (if c then s.handOn i good owner else s)) :=
  (State.ite_trueStep (s.handOn_trueStep i good owner hown) (.refl s)).truthful

/-- Every command but CONFIGURE and the device reset keeps the tables true to each other. -/
theorem exec_truthful (c : Instr) (s : State) (hreset : c ≠ .deviceReset) (hconfigure : ∀ args, c ≠ .configure args) :
    s.Truthful (exec c s) := by
  cases c with
  | deviceReset => exact absurd rfl hreset
  | configure args => exact absurd rfl (hconfigure args)
  | keyDown args => exact execKeyDown_truthful args s
  | keyUp args => exact execKeyUp_truthful args s
  | setRoute args => exact execSetRoute_truthful args s
  | fieldReset args => exact execFieldReset_truthful args s
  | readRoutes | readOutTalk | readInTalks | readFeed | readField | readListen | readSend =>
    exact (s.read_spares _ _ _ _).truthful
  | readRoster args => exact execReadRoster_truthful args s
  | readCounters args => exact execReadCounters_truthful args s
  | nextEvent args => exact execNextEvent_truthful args s
  | frameAbort received => exact execFrameAbort_truthful received s
  | localSample x => exact execLocalSample_truthful x s
  | mixPassEnd => exact s.endPass_trueStep.truthful
  | inboundSampleMoment k => exact execInboundSampleMoment_truthful k s
  | outboundWordRequest k => exact execOutboundWordRequest_truthful k s
  | trainWord k => exact execTrainWord_truthful k s
  | codeWord k x => exact execCodeWord_truthful k x s
  | sampleWord k x => exact execSampleWord_truthful k x s
  | talkOnWord k => exact execTalkOnWord_truthful k s
  | talkOffWord k => exact execTalkOffWord_truthful k s
  | endWord k => exact execEndWord_truthful k s
  | idleWord k i => exact execIdleWord_truthful k i s
  | gapTimerExpiry k => exact (s.portTimer_trueStep s.ports[k].gapDue _ (p := s.ports[k]) _ rfl).truthful
  | codeTimerExpiry k => exact (s.portTimer_trueStep s.ports[k].codeDue _ (p := s.ports[k]) _ rfl).truthful
  | linkSilenceExpiry k => exact (s.portTimer_trueStep s.ports[k].silenceDue _ (p := s.ports[k]) _ rfl).truthful
  | holdoffExpiry k =>
    exact (s.portTimer_trueStep s.ports[k].holdoffDue _ (p := { s.ports[k] with failures := 0 }) _ rfl).truthful
  | alignmentLoss => exact s.loseAlignment_spares.truthful
  | alignmentRegained => exact (State.ite_spares (.refl s) (s.setRing_spares _)).truthful
  | ringDown => exact execRingDown_truthful s
  | ringUp => exact execRingUp_truthful s
  | messageHeader w => exact (s.dataWord_spares w).truthful
  | messageWordArrival w => exact (s.dataWord_spares w).truthful
  | ringInIdleSymbol => exact s.idleSymbol_spares.truthful
  | messageCutShort b =>
    exact (State.ite_spares (State.ite_spares s.idleSymbol_spares s.loseAlignment_spares) (.refl s)).truthful
  | burst g o i c q b => exact s.copy_truthful _ _ _ _ fun u => (u.takeBurst_listenKept _ _ _ _).trueStep
  | presence g o t h q l d => exact s.copy_truthful _ _ _ _ fun u => u.takePresence_trueStep _ _ _ _ _
  | presenceCheckCopy g q =>
    exact s.copy_truthful _ _ _ _ fun u => State.ite_trueStep (.refl u) (u.duplicate_trueStep _)
  | join g o t i c =>
    exact s.copy_truthful _ _ _ _ fun u => u.dispatchOwn_trueStep _ _ fun v => (v.takeJoin_spares _ _ _).trueStep
  | leave g o t i =>
    exact s.copy_truthful _ _ _ _ fun u => u.dispatchOwn_trueStep _ _ fun v => (v.takeLeave_spares _ _).trueStep
  | talk g o t n src c f k v => exact s.copy_truthful _ _ _ _ fun u => (u.takeTalk_tablesStep _ _ _ _).trueStep
  | talkEnd g o t n => exact s.copy_truthful _ _ _ _ fun u => (u.takeTalkEnd_tablesStep _ _).trueStep
  | talkState g o t n m st re =>
    exact s.copy_truthful _ _ _ _ fun u => u.dispatchOwn_trueStep _ _ fun v => v.takeTalkState_trueStep _ _ _ _ _
  | lapseTimerExpiry o n m => exact execLapseTimerExpiry_truthful o n m s
  | refreshTimerExpiry n => exact execRefreshTimerExpiry_truthful n s
  | unansweredTimerExpiry n => exact execUnansweredTimerExpiry_truthful n s
  | presenceTimerExpiry => exact execPresenceTimerExpiry_truthful s
  | absenceTimerExpiry o => exact execAbsenceTimerExpiry_truthful o s
  | subscriberExpiry n o => exact execSubscriberExpiry_truthful n o s
  | joinRefreshExpiry k => exact execJoinRefreshExpiry_truthful k s
  | insertionStart =>
    obtain ⟨t, ht, hspares⟩ := execInsertionStart_spares s
    exact ⟨t, ht, hspares.trueStep⟩
  | insertionEnd => exact execInsertionEnd_truthful s
  | insertionBufferEmpty => exact (State.ite_spares (s.setRing_spares _) (.refl s)).truthful

end Sys2Proof.Machine

/-!
SUPPORT. An UNCONFIGURED station that holds nothing holds nothing after any command that leaves it UNCONFIGURED (R34, R83,
R87, R142); CONFIGURE starts from such a station, and a device reset leaves one.
-/

namespace Sys2Proof.Machine

/-- An UNCONFIGURED station that holds nothing. -/
structure State.Bare (s : State) : Prop where
  mode : s.mode = .unconfigured
  mixes : ∀ m : Mix, s.routes[m] = [] ∧ s.talks[m].granted = [] ∧ s.talks[m].waiting = []
  outTalks : ∀ n : TalkNo, s.outTalks[n] = none
  listens : ∀ k : Fin 32, s.listens[k] = none
  ports : ∀ k : PortNo, s.ports[k].state = .disabled
  notes : s.sched.notes = []
  queues : ∀ c : Cls, s.sched.queues[c] = []
  pass : s.audio.pass = none
  insertion : s.ring.insertion = none
  buffer : s.ring.buffer = []
  gapOwed : s.ring.gapOwed = false
  framing : s.ring.framing = .hunting
  handOff : s.ring.handOff = []

theorem State.emptyWhileUnconfigured_iff (s : State) :
    s.EmptyWhileUnconfigured ↔ (s.mode = .unconfigured → s.Bare) := by
  refine forall_congr' fun hmode => ⟨?_, fun h => ?_⟩
  · rintro ⟨hmixes, houts, hlistens, hports, hnotes, hqueues, hpass, hins, hbuffer, hgap, hframing, hhand⟩
    exact ⟨hmode, hmixes, houts, hlistens, hports, hnotes, hqueues, hpass, hins, hbuffer, hgap, hframing, hhand⟩
  · exact ⟨h.mixes, h.outTalks, h.listens, h.ports, h.notes, h.queues, h.pass, h.insertion, h.buffer, h.gapOwed, h.framing,
      h.handOff⟩

namespace State.Bare

variable {s : State}

/-! ### What such a station answers -/

theorem configured (h : s.Bare) : s.configured = false := by rw [State.configured, h.mode]; rfl

theorem bypassClosed (h : s.Bare) : s.bypassClosed = true := by rw [State.bypassClosed, h.mode]; rfl

theorem talks (h : s.Bare) (m : Mix) : s.talks[m] = ⟨[], []⟩ := by
  obtain ⟨-, hgranted, hwaiting⟩ := h.mixes m
  cases hm : s.talks[m] with
  | mk g w =>
    rw [hm] at hgranted hwaiting
    rw [show g = [] from hgranted, show w = [] from hwaiting]

theorem takesCopies (h : s.Bare) : s.takesCopies = false := by rw [State.takesCopies, h.configured]; rfl

/-! ### Changes beside what it holds -/

/-- The clock, the roster, the send table, the counters, the events, the answers and the audio but for its pass. -/
theorem beside (h : s.Bare) (l : List Instr) (c : Clock) (ro : Vector RosterRecord 63) (p : Option Nat)
    (sends : Vector (List Subscriber) 24) (a : Audio) (ha : a.pass = s.audio.pass) (cs : Counters) (q : EventQueue)
    (r f : Option Response) (b : Bool) (n : Nat) :
    State.Bare { s with
      pending := l, clock := c, roster := ro, presenceDue := p, sends := sends, audio := a, counters := cs, events := q
      response := r, selected := b, frameReply := f, choices := n } :=
  ⟨h.mode, h.mixes, h.outTalks, h.listens, h.ports, h.notes, h.queues, ha.trans h.pass, h.insertion, h.buffer, h.gapOwed,
    h.framing, h.handOff⟩

theorem respond (h : s.Bare) (c : BitVec 8) (r : Result) (w : RefusalReason) (ws : List Word) :
    (s.respond c r w ws).Bare := h.beside _ _ _ _ _ _ rfl _ _ _ _ _ _

theorem count (h : s.Bare) (f : Counters → Counters) : (s.count f).Bare := h.beside _ _ _ _ _ _ rfl _ _ _ _ _ _

theorem emit (h : s.Bare) (e : Event) : (s.emit e).Bare := h.beside _ _ _ _ _ _ rfl _ _ _ _ _ _

theorem reach (h : s.Bare) (t : Nat) : (s.reach t).Bare := by
  have hring := s.reach_ring_closed t h.bypassClosed
  refine ⟨h.mode, h.mixes, h.outTalks, h.listens, h.ports, h.notes, h.queues, h.pass, ?_, ?_, ?_, ?_, ?_⟩ <;> rw [hring]
  · exact h.insertion
  · exact h.buffer
  · exact h.gapOwed
  · exact h.framing
  · exact h.handOff

/-- Ring-in and ring-out, while the interface holds and frames nothing. -/
theorem setRing (h : s.Bare) {r : Ring} (hins : r.insertion = s.ring.insertion) (hbuffer : r.buffer = s.ring.buffer)
    (hgap : r.gapOwed = s.ring.gapOwed) (hframing : r.framing = s.ring.framing) (hhand : r.handOff = s.ring.handOff) :
    (s.setRing r).Bare :=
  ⟨h.mode, h.mixes, h.outTalks, h.listens, h.ports, h.notes, h.queues, h.pass, hins.trans h.insertion,
    hbuffer.trans h.buffer, hgap.trans h.gapOwed, hframing.trans h.framing, hhand.trans h.handOff⟩

theorem setPort (h : s.Bare) {k : PortNo} {p : Port} (hp : p.state = s.ports[k].state) : (s.setPort k p).Bare :=
  ⟨h.mode, h.mixes, h.outTalks, h.listens, forall_vector_set (P := fun _ (p : Port) => p.state = .disabled) h.ports
    (hp.trans (h.ports k)), h.notes, h.queues, h.pass, h.insertion, h.buffer, h.gapOwed, h.framing, h.handOff⟩

theorem ite {t u : State} {c : Prop} {_ : Decidable c} (ht : t.Bare) (hu : u.Bare) : (if c then t else u).Bare := by
  split
  · exact ht
  · exact hu

/-! ### Commands of the control port -/

theorem command (h : s.Bare) (code : BitVec 8) (n : Nat) (args : List Word) (own : State → State) (hown : (own s).Bare) :
    (s.command code n args own).Bare := ite hown (h.respond _ _ _ _)

theorem configuredCommand (h : s.Bare) (code : BitVec 8) (n : Nat) (args : List Word) (own : State → State) :
    (s.configuredCommand code n args own).Bare :=
  h.command code n args _ (by
    rw [h.configured]
    exact h.respond _ _ _ _)

theorem read (h : s.Bare) (code : BitVec 8) (n : Nat) (args : List Word) (words : Fin n → List Word) :
    (s.read code n args words).Bare := by
  refine h.command code 1 args _ ?_
  split
  · exact h.respond _ _ _ _
  · exact h.respond _ _ _ _

/-! ### Ring-in and copies -/

theorem dataWord (h : s.Bare) (w : Word) : (s.dataWord w).Bare := by
  unfold State.dataWord
  rw [h.configured]
  exact ite h (h.setRing rfl rfl rfl rfl rfl)

theorem idleSymbol (h : s.Bare) : s.idleSymbol.Bare := by
  unfold State.idleSymbol
  rw [h.configured]
  exact ite h (h.setRing rfl rfl rfl rfl rfl)

theorem loseAlignment (h : s.Bare) : s.loseAlignment.Bare := by
  have hlost := h.setRing (r := { s.ring with aligned := false, alignedAt := s.clock.now }) rfl rfl rfl rfl rfl
  unfold State.loseAlignment
  rw [h.configured]
  exact ite (hlost.setRing rfl rfl rfl rfl rfl) h

/-- No copy is taken (R93, R100). -/
theorem not_copied (h : s.Bare) (c : Bool) (t : State) : (if (s.takesCopies && c) = true then t else s).Bare := by
  rw [h.takesCopies]
  exact h

/-! ### A block completion -/

theorem endPass_eq (h : s.Bare) : s.endPass = s := by
  unfold State.endPass
  rw [h.pass]

theorem passOf_eq (h : s.Bare) (seen : PortNo → Bool) : s.passOf seen = s := by
  rw [State.passOf, h.configured]
  rfl

theorem ageQueues (h : s.Bare) : s.ageQueues.Bare := by
  refine ⟨h.mode, h.mixes, h.outTalks, h.listens, h.ports, h.notes, fun c => ?_, h.pass, ?_, h.buffer, h.gapOwed, h.framing,
    h.handOff⟩
  · have hqueue := h.queues c
    simp only [State.ageQueues, Scheduler.aged, Fin.getElem_fin, Vector.getElem_ofFn]
    rw [Fin.getElem_fin] at hqueue
    rw [hqueue]
    rfl
  · simp only [State.ageQueues]
    rw [h.insertion]
    rfl

theorem captureAll_eq (h : s.Bare) (seen : PortNo → Bool) : s.captureAll seen = s := by
  refine List.foldl_fixed' (fun n => ?_) _
  unfold State.captureOne
  rw [h.mode]

theorem portCompletion_eq (h : s.Bare) (k : PortNo) : s.portCompletion k = s := by
  unfold State.portCompletion
  dsimp only
  rw [h.ports k]

theorem blockCompletion (h : s.Bare) (l : List (Vector Sample 16)) : (s.blockCompletion l).Bare := by
  have hcompleted : State.Bare { s with audio := s.audio.complete l, choices := s.choices + 1 } :=
    h.beside _ _ _ _ _ (s.audio.complete l) rfl _ _ _ _ _ _
  unfold State.blockCompletion
  dsimp only
  rw [hcompleted.endPass_eq, hcompleted.passOf_eq, hcompleted.ageQueues.captureAll_eq,
    List.foldl_fixed' hcompleted.ageQueues.portCompletion_eq]
  exact hcompleted.ageQueues

/-! ### Reports of absence -/

theorem arbiterAbsence_eq (h : s.Bare) (st : Station) : s.arbiterAbsence st = s := by
  have hremove : ∀ m, State.removeTalker st s m = s := fun m => by
    unfold State.removeTalker
    rw [h.talks m]
    rfl
  have hfill : ∀ m, s.fill m = s := fun m => State.fill_of_full (.inr (h.mixes m).2.2)
  rw [State.arbiterAbsence, List.foldl_fixed' hremove, List.foldl_fixed' hfill]

theorem talkerAbsence_eq (h : s.Bare) (st : Station) : s.talkerAbsence st = s := by
  refine List.foldl_fixed' (fun n => ?_) _
  unfold State.dropReplies
  rw [h.outTalks n]

theorem listenAbsence_eq (h : s.Bare) (st : Station) : s.listenAbsence st = s := by
  refine List.foldl_fixed' (fun k => ?_) _
  unfold State.absentListen
  rw [h.listens k]

theorem reportAbsence (h : s.Bare) (st : Station) : (s.reportAbsence st).Bare := by
  have hsent : (s.sendAbsence st).Bare := h.beside _ _ _ _ _ _ rfl _ _ _ _ _ _
  rw [State.reportAbsence, hsent.arbiterAbsence_eq, hsent.talkerAbsence_eq, hsent.listenAbsence_eq]
  exact hsent

theorem setRecord (h : s.Bare) (st : Station) (r : RosterRecord) : (s.setRecord st r).Bare := by
  unfold State.setRecord
  split
  · exact h.beside _ _ _ _ _ _ rfl _ _ _ _ _ _
  · exact h

theorem announce_eq (h : s.Bare) : s.announce = s := by
  unfold State.announce
  rw [h.mode, if_neg (by rintro ⟨hactive, -⟩; cases hactive)]

/-! ### Words and timers of the ports -/

theorem takeWord_eq (h : s.Bare) (k : PortNo) (own : State → Port → State) : s.takeWord k own = s := if_pos (h.ports k)

/-- A timer of a port acts in a state in which no port of the station is. -/
theorem portTimer (h : s.Bare) (k : PortNo) (due : Option Nat) {c : Prop} [Decidable c] (t : Nat → State) :
    (s.ports[k].state = .disabled → ¬ c) → State.Bare (match due with
      | some d => if c then t d else s
      | none => s) := by
  intro hc
  split
  · rw [if_neg (hc (h.ports k))]
    exact h
  · exact h

end State.Bare

theorem State.resetFrom_bare (l : List Instr) (c : Clock) (a : Bool) (n : Nat) : (State.resetFrom l c a n).Bare where
  mode := rfl
  mixes m := by simp [State.resetFrom]
  outTalks n := by simp [State.resetFrom]
  listens k := by simp [State.resetFrom]
  ports k := by simp [State.resetFrom, Port.reset]
  notes := rfl
  queues c := by simp [State.resetFrom, Scheduler.reset]
  pass := rfl
  insertion := rfl
  buffer := rfl
  gapOwed := rfl
  framing := rfl
  handOff := rfl

end Sys2Proof.Machine

/-!
SUPPORT. Every command but CONFIGURE leaves an UNCONFIGURED station that holds nothing as such; then every step keeps the
tables true to each other.
-/

namespace Sys2Proof.Machine

/-- A command completes and leaves an UNCONFIGURED station that holds nothing. -/
def State.LeavesBare (o : Host.Outcome State Fault Refusal) : Prop := ∃ t, o = .next t ∧ t.Bare

theorem State.Bare.leaves {t : State} (h : t.Bare) : State.LeavesBare (.next t) := ⟨t, rfl, h⟩

section
variable {s : State}

theorem execReadCounters_leavesBare (h : s.Bare) (args : List Word) : State.LeavesBare (execReadCounters args s) := by
  refine (h.command _ _ _ _ ?_).leaves
  exact h.beside _ _ _ _ _ _ rfl _ _ _ _ _ _

theorem execNextEvent_leavesBare (h : s.Bare) (args : List Word) : State.LeavesBare (execNextEvent args s) := by
  refine (h.command _ _ _ _ ?_).leaves
  split
  · exact h.beside _ _ _ _ _ _ rfl _ _ _ _ _ _
  · exact h.beside _ _ _ _ _ _ rfl _ _ _ _ _ _

theorem execFrameAbort_leavesBare (h : s.Bare) (received : List Word) : State.LeavesBare (execFrameAbort received s) := by
  have hframe : ∀ r f b, State.Bare { s with response := r, selected := b, frameReply := f } := fun _ _ _ =>
    h.beside _ _ _ _ _ _ rfl _ _ _ _ _ _
  refine State.Bare.leaves ?_
  split
  · exact State.Bare.ite (hframe _ _ _) (hframe _ _ _)
  · exact State.Bare.ite (hframe _ _ _) (State.Bare.ite (hframe _ _ _) (hframe _ _ _))

theorem execLocalSample_leavesBare (h : s.Bare) (x : Vector Sample 16) : State.LeavesBare (execLocalSample x s) := by
  have hfilled : State.Bare { s.reach (s.audio.sampleAt + Config.countsPerSample) with
      audio := { s.audio with current := s.audio.current ++ [x], sampleAt := s.audio.sampleAt + Config.countsPerSample } } :=
    (h.reach _).beside _ _ _ _ _ { s.audio with
      current := s.audio.current ++ [x], sampleAt := s.audio.sampleAt + Config.countsPerSample } rfl _ _ _ _ _ _
  exact (State.Bare.ite (hfilled.blockCompletion _) hfilled).leaves

theorem execInboundSampleMoment_leavesBare (h : s.Bare) (k : PortNo) :
    State.LeavesBare (execInboundSampleMoment k s) := by
  refine State.Bare.leaves ?_
  dsimp only
  rw [if_neg (by rw [h.ports k]; nofun)]
  exact h

theorem execOutboundWordRequest_leavesBare (h : s.Bare) (k : PortNo) :
    State.LeavesBare (execOutboundWordRequest k s) := by
  refine State.Bare.leaves ?_
  dsimp only
  rw [if_neg (by rw [h.ports k]; nofun)]
  exact h.setPort rfl

theorem State.Bare.takeWord (h : s.Bare) (k : PortNo) (own : State → Port → State) : (s.takeWord k own).Bare := by
  rw [h.takeWord_eq]
  exact h

theorem execRingDown_leavesBare (h : s.Bare) : State.LeavesBare (execRingDown s) := by
  have hreach := h.reach (s.ring.alignedAt + Config.downCounts)
  refine (State.Bare.ite (State.Bare.emit ?_ _) h).leaves
  exact hreach.setRing rfl hreach.buffer.symm hreach.gapOwed.symm hreach.framing.symm rfl

theorem execRingUp_leavesBare (h : s.Bare) : State.LeavesBare (execRingUp s) := by
  have hreach := h.reach (s.ring.alignedAt + Config.ms 1)
  refine (State.Bare.ite (State.Bare.emit ?_ _) h).leaves
  exact hreach.setRing rfl rfl rfl hreach.framing.symm rfl

theorem execLapseTimerExpiry_leavesBare (h : s.Bare) (o : Station) (n : TalkNo) (m : Mix) :
    State.LeavesBare (execLapseTimerExpiry o n m s) := by
  refine State.Bare.leaves ?_
  rw [h.talks m]
  exact h

theorem execRefreshTimerExpiry_leavesBare (h : s.Bare) (n : TalkNo) : State.LeavesBare (execRefreshTimerExpiry n s) := by
  refine State.Bare.leaves ?_
  rw [h.outTalks n]
  exact h

theorem execUnansweredTimerExpiry_leavesBare (h : s.Bare) (n : TalkNo) :
    State.LeavesBare (execUnansweredTimerExpiry n s) := by
  refine State.Bare.leaves ?_
  rw [h.outTalks n]
  exact h

theorem execPresenceTimerExpiry_leavesBare (h : s.Bare) : State.LeavesBare (execPresenceTimerExpiry s) := by
  refine State.Bare.leaves ?_
  split
  case h_1 due _ =>
    have hran : State.Bare { s.reach due with presenceDue := some (due + Config.ms 100) } :=
      (h.reach due).beside _ _ _ _ _ _ rfl _ _ _ _ _ _
    rw [hran.announce_eq]
    exact hran
  case h_2 => exact h

theorem execAbsenceTimerExpiry_leavesBare (h : s.Bare) (o : Station) : State.LeavesBare (execAbsenceTimerExpiry o s) := by
  refine State.Bare.leaves ?_
  split
  · dsimp only
    split
    · exact (((h.reach _).setRecord _ _).emit _).reportAbsence _
    · exact h
  · exact h

theorem execSubscriberExpiry_leavesBare (h : s.Bare) (n : SourceNo) (o : Station) :
    State.LeavesBare (execSubscriberExpiry n o s) := by
  refine State.Bare.leaves ?_
  split
  · exact (h.reach _).beside _ _ _ _ _ _ rfl _ _ _ _ _ _
  · exact h

theorem execJoinRefreshExpiry_leavesBare (h : s.Bare) (k : Fin 32) : State.LeavesBare (execJoinRefreshExpiry k s) := by
  refine State.Bare.leaves ?_
  rw [h.listens k]
  exact h

theorem execInsertionStart_leavesBare (h : s.Bare) : State.LeavesBare (execInsertionStart s) := by
  refine State.Bare.leaves ?_
  rw [if_neg (by rw [State.mayInsert, h.mode]; nofun)]
  exact h

theorem execInsertionEnd_leavesBare (h : s.Bare) : State.LeavesBare (execInsertionEnd s) := by
  refine State.Bare.leaves ?_
  rw [h.insertion]
  exact h

theorem execInsertionBufferEmpty_leavesBare (h : s.Bare) : State.LeavesBare (execInsertionBufferEmpty s) :=
  (State.Bare.ite (h.setRing (r := { s.ring with
    buffer := [], gapOwed := false, out := .idle, swept := s.ring.buffered }) rfl h.buffer.symm h.gapOwed.symm rfl rfl) h).leaves

theorem execAlignmentRegained_leavesBare (h : s.Bare) : State.LeavesBare (execAlignmentRegained s) :=
  (State.Bare.ite h (h.setRing (r := { s.ring with
    aligned := true, alignedAt := s.clock.now, framing := .hunting }) rfl rfl rfl h.framing.symm rfl)).leaves

/-- Every command but CONFIGURE leaves such a station as one. -/
theorem exec_leavesBare (h : s.Bare) (c : Instr) (hconfigure : ∀ args, c ≠ .configure args) : State.LeavesBare (exec c s) := by
  cases c with
  | deviceReset => exact (State.resetFrom_bare _ _ _ _).leaves
  | configure args => exact absurd rfl (hconfigure args)
  | keyDown | keyUp | setRoute | fieldReset => exact (h.configuredCommand _ _ _ _).leaves
  | readRoutes | readOutTalk | readInTalks | readFeed | readField | readListen | readSend =>
    exact (h.read _ _ _ _).leaves
  | readRoster args => exact (h.command _ _ _ _ (h.respond _ _ _ _)).leaves
  | readCounters args => exact execReadCounters_leavesBare h args
  | nextEvent args => exact execNextEvent_leavesBare h args
  | frameAbort received => exact execFrameAbort_leavesBare h received
  | localSample x => exact execLocalSample_leavesBare h x
  | mixPassEnd =>
    refine ⟨_, rfl, ?_⟩
    rw [h.endPass_eq]
    exact h
  | inboundSampleMoment k => exact execInboundSampleMoment_leavesBare h k
  | outboundWordRequest k => exact execOutboundWordRequest_leavesBare h k
  | trainWord | codeWord | sampleWord | talkOnWord | talkOffWord | endWord | idleWord => exact (h.takeWord _ _).leaves
  | gapTimerExpiry k => exact 
    (h.portTimer k s.ports[k].gapDue (c := s.ports[k].state = .training ∨ s.ports[k].state = .retraining)
      _ (by rintro hk; rw [hk]; nofun)).leaves
  | codeTimerExpiry k => exact 
    (h.portTimer k s.ports[k].codeDue (c := s.ports[k].state = .checking)
      _ (by rintro hk; rw [hk]; nofun)).leaves
  | linkSilenceExpiry k => exact 
    (h.portTimer k s.ports[k].silenceDue (c := s.ports[k].state = .settling ∨ s.ports[k].state = .live)
      _ (by rintro hk; rw [hk]; nofun)).leaves
  | holdoffExpiry k => exact 
    (h.portTimer k s.ports[k].holdoffDue (c := s.ports[k].state = .holdoff)
      _ (by rintro hk; rw [hk]; nofun)).leaves
  | alignmentLoss => exact h.loseAlignment.leaves
  | alignmentRegained => exact execAlignmentRegained_leavesBare h
  | ringDown => exact execRingDown_leavesBare h
  | ringUp => exact execRingUp_leavesBare h
  | messageHeader w => exact (h.dataWord w).leaves
  | messageWordArrival w => exact (h.dataWord w).leaves
  | ringInIdleSymbol => exact h.idleSymbol.leaves
  | messageCutShort b => exact (State.Bare.ite (State.Bare.ite h.idleSymbol h.loseAlignment) h).leaves
  | presenceCheckCopy =>
    refine ⟨_, rfl, ?_⟩
    rw [h.takesCopies]
    exact h
  | presence =>
    refine ⟨_, rfl, ?_⟩
    rw [Bool.and_assoc]
    exact h.not_copied _ _
  | burst | join | leave | talk | talkEnd | talkState => exact (h.not_copied _ _).leaves
  | lapseTimerExpiry o n m => exact execLapseTimerExpiry_leavesBare h o n m
  | refreshTimerExpiry n => exact execRefreshTimerExpiry_leavesBare h n
  | unansweredTimerExpiry n => exact execUnansweredTimerExpiry_leavesBare h n
  | presenceTimerExpiry => exact execPresenceTimerExpiry_leavesBare h
  | absenceTimerExpiry o => exact execAbsenceTimerExpiry_leavesBare h o
  | subscriberExpiry n o => exact execSubscriberExpiry_leavesBare h n o
  | joinRefreshExpiry k => exact execJoinRefreshExpiry_leavesBare h k
  | insertionStart => exact execInsertionStart_leavesBare h
  | insertionEnd => exact execInsertionEnd_leavesBare h
  | insertionBufferEmpty => exact execInsertionBufferEmpty_leavesBare h

end

/-! ### CONFIGURE and the device reset -/

/-- What a step keeps of the tables: those that hold only of a station empty while UNCONFIGURED with that premise. -/
structure State.KeepsTrue (s t : State) : Prop where
  routes : s.RouteStep t
  slots : s.SlotsFilled → t.SlotsFilled
  keys : s.KeysUnique → t.KeysUnique
  empty : s.EmptyWhileUnconfigured → t.EmptyWhileUnconfigured
  admitted : s.EmptyWhileUnconfigured → s.ReturnTalksAdmitted → t.ReturnTalksAdmitted
  holders : s.EmptyWhileUnconfigured → s.HoldersCountGranted → t.HoldersCountGranted

/-- The tables of a station without entries, talks and listen entries are true to each other. -/
theorem State.true_of_empty {s : State} (hroutes : ∀ m : Mix, s.routes[m] = []) (htalks : ∀ m : Mix, s.talks[m] = ⟨[], []⟩)
    (hlistens : ∀ k : Fin 32, s.listens[k] = none) :
    s.MixMinus ∧ s.RoutesBounded ∧ s.ListensFollowRoutes ∧ s.SlotsFilled ∧ s.KeysUnique ∧ s.ReturnTalksAdmitted ∧
      s.HoldersCountGranted := by
  refine ⟨fun k => ?_, fun m => ?_, ⟨fun k e he => ?_, fun r hr => ?_⟩, fun m => ?_, fun m => ?_, fun k => .inl (htalks _), ?_⟩
  · rw [hroutes]
    rfl
  · rw [hroutes]
    exact Nat.zero_le _
  · rw [hlistens] at he
    cases he
  · refine absurd (entriesOf_eq_nil_iff.2 fun m => ?_) hr
    rw [hroutes]
    rfl
  · rw [htalks]
    exact ⟨Nat.zero_le _, fun hne => absurd rfl hne⟩
  · rw [htalks]
    exact List.nodup_nil
  · refine s.holdersCountGranted_iff.2 fun m => ?_
    rw [hroutes, htalks]
    exact .nil

theorem State.Bare.tables {s : State} (h : s.Bare) : s.MixMinus ∧ s.RoutesBounded ∧ s.ListensFollowRoutes ∧
    s.SlotsFilled ∧ s.KeysUnique ∧ s.ReturnTalksAdmitted ∧ s.HoldersCountGranted :=
  State.true_of_empty (fun m => (h.mixes m).1) h.talks h.listens

/-- A station that holds nothing and is UNCONFIGURED, as after a device reset. -/
theorem State.keepsTrue_of_bare {s t : State} (h : t.Bare) : s.KeepsTrue t := by
  obtain ⟨hminus, hbounded, hlistens, hslots, hkeys, hadmitted, hholders⟩ := h.tables
  exact ⟨⟨fun _ => hminus, fun _ => hbounded, fun _ => hlistens⟩, fun _ => hslots, fun _ => hkeys,
    fun _ => t.emptyWhileUnconfigured_iff.2 fun _ => h, fun _ _ => hadmitted, fun _ _ => hholders⟩

theorem State.TrueStep.keepsTrue {s t : State} (h : s.TrueStep t) (hempty : s.EmptyWhileUnconfigured →
    t.EmptyWhileUnconfigured) : s.KeepsTrue t :=
  ⟨h.routes, h.slots, h.keys, hempty, fun _ => h.admitted, fun _ => h.holders⟩

/-- What CONFIGURE leaves of the tables of an UNCONFIGURED station: all of them, and it is ACTIVE then (R189). -/
structure State.Configured (s t : State) : Prop where
  mode : t.mode = .active
  routes : t.routes = s.routes
  talks : t.talks = s.talks
  listens : t.listens = s.listens

theorem State.configurePort_configured {s t : State} (c : Configuration) (k : PortNo) (h : s.Configured t) :
    s.Configured (State.configurePort c t k) := by
  unfold State.configurePort
  dsimp only
  split
  · exact ⟨h.mode, h.routes, h.talks, h.listens⟩
  · exact ⟨h.mode, h.routes, h.talks, h.listens⟩

theorem State.configurePorts_configured {s : State} (c : Configuration) (l : List PortNo) : ∀ {t : State}, s.Configured t →
    s.Configured (l.foldl (State.configurePort c) t) := by
  induction l with
  | nil => exact fun h => h
  | cons k l ih => exact fun h => ih (State.configurePort_configured c k h)

theorem State.announce_answerStep (s : State) : s.AnswerStep s.announce := by
  unfold State.announce
  split
  · exact s.hand_answerStep _
  · exact .refl s

theorem State.configure_configured (s : State) (c : Configuration) : s.Configured (s.configure c) := by
  have hports := State.configurePorts_configured c (List.finRange 8) (s := s) (t := (s.takeConfig c).openBypass)
    ⟨rfl, rfl, rfl, rfl⟩
  have hannounce := State.announce_answerStep ((List.finRange 8).foldl (State.configurePort c) (s.takeConfig c).openBypass)
  exact ⟨hannounce.mode.trans hports.mode, hannounce.routes.trans hports.routes, hannounce.talks.trans hports.talks,
    hannounce.listens.trans hports.listens⟩

theorem State.Configured.keepsTrue {s t : State} (h : s.Configured t) (hmode : s.mode = .unconfigured) : s.KeepsTrue t := by
  have htables : s.EmptyWhileUnconfigured → t.ReturnTalksAdmitted ∧ t.HoldersCountGranted := fun hempty => by
    have hbare := s.emptyWhileUnconfigured_iff.1 hempty hmode
    obtain ⟨-, -, -, -, -, hadmitted, hholders⟩ := State.true_of_empty (s := t) (by rw [h.routes]; exact fun m => (hbare.mixes m).1)
      (by rw [h.talks]; exact hbare.talks) (by rw [h.listens]; exact hbare.listens)
    exact ⟨hadmitted, hholders⟩
  refine ⟨.of_eq h.routes h.listens, fun g => ?_, fun g => ?_, fun _ hunconfigured => ?_, fun hempty _ => (htables hempty).1,
    fun hempty _ => (htables hempty).2⟩
  · unfold State.SlotsFilled at g ⊢
    rwa [h.talks]
  · unfold State.KeysUnique at g ⊢
    rwa [h.talks]
  · rw [h.mode] at hunconfigured
    cases hunconfigured

theorem State.respond_keepsTrue (s : State) (code : BitVec 8) (r : Result) (w : RefusalReason) (ws : List Word) :
    s.KeepsTrue (s.respond code r w ws) :=
  (s.respond_spares code r w ws).trueStep.keepsTrue fun h => (State.emptyWhileUnconfigured_iff _).2 fun hmode =>
    (s.emptyWhileUnconfigured_iff.1 h hmode).respond _ _ _ _

theorem execConfigure_keepsTrue (args : List Word) (s : State) :
    ∃ t, execConfigure args s = .next t ∧ s.KeepsTrue t := by
  refine ⟨_, rfl, ?_⟩
  unfold State.command
  split
  case isFalse => exact s.respond_keepsTrue _ _ _ _
  case isTrue =>
    dsimp only
    by_cases hconfigured : s.configured = true
    · rw [if_pos hconfigured]
      exact s.respond_keepsTrue _ _ _ _
    · rw [if_neg hconfigured]
      have hmode : s.mode = .unconfigured := by simpa [State.configured] using hconfigured
      split
      · exact s.respond_keepsTrue _ _ _ _
      case h_2 c _ =>
        have h := s.configure_configured c
        exact State.Configured.keepsTrue ⟨h.mode, h.routes, h.talks, h.listens⟩ hmode

/-! ### Every step -/

/-- Every command completes and keeps the tables true to each other. -/
theorem exec_keepsTrue (c : Instr) (s : State) : ∃ t, exec c s = .next t ∧ s.KeepsTrue t := by
  by_cases hconfigure : ∃ args, c = .configure args
  · obtain ⟨args, rfl⟩ := hconfigure
    exact execConfigure_keepsTrue args s
  · rw [not_exists] at hconfigure
    by_cases hreset : c = .deviceReset
    · subst hreset
      exact ⟨_, rfl, State.keepsTrue_of_bare (State.resetFrom_bare _ _ _ _)⟩
    · obtain ⟨t, ht, htrue⟩ := exec_truthful c s hreset hconfigure
      refine ⟨t, ht, htrue.keepsTrue fun h => t.emptyWhileUnconfigured_iff.2 fun hmode => ?_⟩
      have hbefore : s.mode = .unconfigured := by_contra fun hne => htrue.mode hne hmode
      obtain ⟨t', ht', hbare⟩ := exec_leavesBare (s.emptyWhileUnconfigured_iff.1 h hbefore) c hconfigure
      rw [ht] at ht'
      cases ht'
      exact hbare

theorem State.reach_keepsTrue (s : State) (t : Nat) : s.KeepsTrue (s.reach t) :=
  (s.reach_spares t).trueStep.keepsTrue fun h => (State.emptyWhileUnconfigured_iff _).2 fun hmode =>
    (s.emptyWhileUnconfigured_iff.1 h hmode).reach t

/-- Every step keeps the tables true to each other: an idle step lets a reference count pass, any other takes a command. -/
theorem step_keepsTrue {s t : State} (h : step s = .next t) : s.KeepsTrue t := by
  unfold step at h
  split at h
  case h_1 =>
    cases h
    exact s.reach_keepsTrue _
  case h_2 c rest _ =>
    obtain ⟨u, hu, hkeeps⟩ := exec_keepsTrue c { s with pending := rest }
    rw [hu] at h
    cases h
    exact ⟨⟨hkeeps.routes.mixMinus, hkeeps.routes.bounded, hkeeps.routes.listens⟩, hkeeps.slots, hkeeps.keys, hkeeps.empty,
      hkeeps.admitted, hkeeps.holders⟩

end Sys2Proof.Machine

namespace Sys2Proof.Proofs

open Sys2Proof.Machine

/-- Settles O60: each operation of the model keeps the tables true to each other and an UNCONFIGURED station empty; CONFIGURE starts from an empty one. -/
theorem stepKeepsTablesTrue : Obligations.StepKeepsTablesTrue := by
  intro s t h
  obtain ⟨⟨hminus, hbounded, hlistens⟩, hslots, hkeys, hempty, hadmitted, hholders⟩ := step_keepsTrue h
  exact ⟨hminus, hbounded, hslots, hkeys, hlistens, hempty, hadmitted, hholders⟩

/-- Settles O58: the reset state holds nothing, so its queues are empty and its tables true to each other. -/
theorem resetHasInvariants : Obligations.ResetHasInvariants := by
  have hbare : State.reset.Bare := State.resetFrom_bare _ _ _ _
  obtain ⟨hminus, hbounded, hlistens, hslots, hkeys, hadmitted, hholders⟩ := hbare.tables
  refine ⟨?_, State.reset.emptyWhileUnconfigured_iff.2 fun _ => hbare, hadmitted, hminus, hbounded, hslots, hkeys, hholders,
    hlistens⟩
  exact ⟨⟨Nat.zero_le _, Nat.zero_le _⟩, ⟨Nat.zero_le _, fun c => (congrArg List.length (hbare.queues c)).le.trans (Nat.zero_le _)⟩,
    fun _ => ⟨hbare.notes, hbare.queues⟩, Nat.zero_le _, fun k => by simp [State.reset, State.resetFrom, Port.reset],
    by simp [State.CountersBounded, State.reset, State.resetFrom, Counters.zero],
    fun m => by simp [State.reset, State.resetFrom, MixState.reset, StationConfig.reset, MixConfig.reset],
    fun k e he => absurd ((hbare.listens k).symm.trans he) nofun,
    by simp [State.RoutesWithin, State.reset, State.resetFrom], by simp [State.TalksWithin, State.reset, State.resetFrom],
    fun n t ht => absurd ((hbare.outTalks n).symm.trans ht) nofun⟩


end Sys2Proof.Proofs

/-!
SUPPORT. The frames of the control port, the checks that come before a command's own, the words of the response and the
event queue (section 13).
-/

namespace Sys2Proof.Machine

variable (s : State)

/-! ### Counts -/

theorem satInc_eq_min_of_le {n : Nat} (h : n ≤ 65535) : satInc n = min (n + 1) 65535 := by
  unfold satInc
  split <;> omega

/-! ### The checks that come first -/

theorem State.command_of_length_eq {args : List Word} {n : Nat} (h : args.length = n) (code : BitVec 8) (own : State → State) :
    s.command code n args own = own s := if_pos h

theorem State.command_of_length_ne {args : List Word} {n : Nat} (h : args.length ≠ n) (code : BitVec 8)
    (own : State → State) : s.command code n args own = s.badArg code := if_neg h

theorem State.configuredCommand_of_length_ne {args : List Word} {n : Nat} (h : args.length ≠ n) (code : BitVec 8)
    (own : State → State) : s.configuredCommand code n args own = s.badArg code := if_neg h

variable {s}

theorem State.configured_of_mode_ne (h : s.mode ≠ .unconfigured) : s.configured = true := by
  simpa [State.configured] using h

theorem State.configured_of_mode_eq (h : s.mode = .unconfigured) : s.configured = false := by
  simp [State.configured, h]

theorem State.configuredCommand_of_configured (hmode : s.mode ≠ .unconfigured) {args : List Word} {n : Nat}
    (h : args.length = n) (code : BitVec 8) (own : State → State) : s.configuredCommand code n args own = own s := by
  rw [State.configuredCommand, s.command_of_length_eq h, State.configured_of_mode_ne hmode]
  rfl

theorem State.configuredCommand_of_unconfigured (hmode : s.mode = .unconfigured) {args : List Word} {n : Nat}
    (h : args.length = n) (code : BitVec 8) (own : State → State) :
    s.configuredCommand code n args own = s.notConfigured code := by
  rw [State.configuredCommand, s.command_of_length_eq h, State.configured_of_mode_eq hmode]
  rfl

/-! ### The response frame -/

/-- The fields of the header of a response (table "Control frames"). -/
theorem Response.frame_header {r : Response} (h : r.words.length < 4096) : ∃ w : Word, r.frame = w :: r.words ∧
    bits w 24 8 = r.code.toNat ∧ bits w 20 4 = r.result.code ∧ bits w 16 4 = r.reason.code ∧
    bits w 4 12 = r.words.length ∧ bits w 0 4 = 0 := by
  have hcode : r.code.toNat < 256 := r.code.isLt
  have hresult : r.result.code < 4 := by cases r.result <;> decide
  have hreason : r.reason.code < 7 := by cases r.reason <;> decide
  refine ⟨_, rfl, ?_⟩
  simp only [bits, word, BitVec.toNat_ofNat, Nat.shiftRight_eq_div_pow]
  omega

/-! ### Named values and the words of an event -/

theorem Summary.code_eq_idxOf (x : Summary) : x.code = [Summary.pending, .unanswered, .granted, .waiting, .refused].idxOf x := by
  cases x <;> rfl

theorem Cause.code_eq_idxOf (x : Cause) :
    x.code = [Cause.grant, .promote, .preempted, .ended, .timeout, .talkerGone, .destDown].idxOf x := by
  cases x <;> rfl

theorem PortState.code_eq_idxOf (x : PortState) :
    x.code = [PortState.disabled, .idle, .training, .checking, .holdoff, .settling, .live, .retraining].idxOf x := by
  cases x <;> rfl

theorem PortFault.code_eq_idxOf (x : PortFault) : x.code = [PortFault.none, .trainTimeout, .trainBroken, .trainRange,
    .trainSpread, .codeTimeout, .codeMismatch, .linkLost, .ended, .portReset].idxOf x := by
  cases x <;> rfl

theorem IdResult.code_eq_idxOf (x : IdResult) : x.code = [IdResult.notVerified, .mismatch, .verified].idxOf x := by
  cases x <;> rfl

theorem StationChange.code_eq_idxOf (x : StationChange) : x.code = [StationChange.present, .absent, .restarted].idxOf x := by
  cases x <;> rfl

theorem RingChange.code_eq_idxOf (x : RingChange) : x.code = [RingChange.up, .down, .duplicate].idxOf x := by
  cases x <;> rfl

theorem Direction.code_eq_idxOf (x : Direction) : x.code = [Direction.up, .down].idxOf x := by
  cases x <;> rfl

/-! ### The commands of a frame -/

theorem mem_commandCodes_iff (code : Nat) (args : List Word) : code ∈ commandCodes ↔ codeCommand code args ≠ none := by
  refine ⟨fun h => ?_, fun h => ?_⟩
  · simp only [commandCodes, List.mem_cons, List.not_mem_nil, or_false] at h
    rcases h with h | h | h | h | h | h | h | h | h | h | h | h | h | h | h <;> subst h <;> nofun
  · unfold codeCommand at h
    split at h <;> simp_all [commandCodes]

theorem frameCommands_of_short {h : Word} {args : List Word} (hshort : args.length < bits h 12 12) :
    frameCommands (h :: args) = [.frameAbort (h :: args)] := if_pos hshort

theorem frameCommands_of_code_not_mem {h : Word} {args : List Word} (hcode : bits h 24 8 ∉ commandCodes) :
    frameCommands (h :: args) = [.frameAbort (h :: args)] := by
  unfold frameCommands
  dsimp only
  split
  · rfl
  · rw [mem_commandCodes_iff _ (args.take (bits h 12 12)), not_not] at hcode
    rw [hcode]

/-- A whole frame is the command of its code, whose argument words are those the header counts. -/
theorem frameCommands_of_whole {h : Word} {args unread : List Word} {c : Instr} (hlength : args.length = bits h 12 12)
    (hc : codeCommand (bits h 24 8) args = some c) : frameCommands (h :: args ++ unread) = [c, .frameAbort []] := by
  have hwhole : ¬ (args ++ unread).length < bits h 12 12 := by
    rw [List.length_append]
    omega
  have htake : (args ++ unread).take (bits h 12 12) = args := by rw [← hlength, List.take_left]
  show frameCommands (h :: (args ++ unread)) = _
  unfold frameCommands
  dsimp only
  rw [if_neg hwhole, htake, hc]

end Sys2Proof.Machine

namespace Sys2Proof.Proofs

open Sys2Proof.Machine

/-- Settles O1: with a command at the front the step is that command's execution on the rest of the queue. -/
theorem stepTakesFrontCommand : Obligations.StepTakesFrontCommand := fun _ _ _ => rfl

/-- Settles O4: the reset state differs from `State.reset` in the fields that its arguments give. -/
theorem deviceResetReturnsToReset : Obligations.DeviceResetReturnsToReset := fun _ => rfl

/-- Settles O10: the sixteen counters are answered in their order and replaced by zeros. -/
theorem readCountersClears : Obligations.ReadCountersClears := fun _ => rfl

/-- Settles O3: the reset state, field by field. -/
theorem resetEmptiesEveryTable : Obligations.ResetEmptiesEveryTable := by
  unfold Obligations.ResetEmptiesEveryTable
  have hframing : ∀ m, State.reset.ring.framing ≠ .message m := nofun
  simp [State.reset, State.resetFrom, Port.reset, Scheduler.reset, StationConfig.reset, MixConfig.reset, MixState.reset,
    RosterRecord.reset, Counters.zero, Ring.reset, Audio.reset, Block.silence, State.bypassClosed, State.eventLine,
    State.responseFrame, State.lineOut]
  rfl

/-- Settles O6: the length is checked first and the mode next, by `State.command` and `State.configuredCommand`. -/
theorem commandsAreCheckedInOrder : Obligations.CommandsAreCheckedInOrder := by
  refine ⟨fun s args => ⟨?_, ?_, ?_, fun h => ⟨?_, ?_, ?_, ?_, ?_, ?_, ?_, ?_, ?_⟩, fun h => ?_⟩, fun s args hmode => ⟨?_, ?_, ?_, ?_⟩⟩
  · exact fun h => congrArg _ (s.command_of_length_ne h _ _)
  · exact fun h => congrArg _ (s.configuredCommand_of_length_ne h _ _)
  · exact fun h => congrArg _ (s.configuredCommand_of_length_ne h _ _)
  · exact congrArg _ (s.configuredCommand_of_length_ne h _ _)
  · exact congrArg _ (s.configuredCommand_of_length_ne h _ _)
  · exact congrArg _ (s.command_of_length_ne h _ _)
  · exact congrArg _ (s.command_of_length_ne h _ _)
  · exact congrArg _ (s.command_of_length_ne h _ _)
  · exact congrArg _ (s.command_of_length_ne h _ _)
  · exact congrArg _ (s.command_of_length_ne h _ _)
  · exact congrArg _ (s.command_of_length_ne h _ _)
  · exact congrArg _ (s.command_of_length_ne h _ _)
  · have hlength : args.length ≠ 0 := fun h0 => h (List.length_eq_zero_iff.1 h0)
    exact ⟨congrArg _ (s.command_of_length_ne hlength _ _), congrArg _ (s.command_of_length_ne hlength _ _),
      congrArg _ (s.command_of_length_ne hlength _ _)⟩
  · exact fun h => congrArg _ (State.configuredCommand_of_unconfigured hmode h _ _)
  · exact fun h => congrArg _ (State.configuredCommand_of_unconfigured hmode h _ _)
  · exact fun h => congrArg _ (State.configuredCommand_of_unconfigured hmode h _ _)
  · exact fun h => congrArg _ (State.configuredCommand_of_unconfigured hmode h _ _)

/-- Settles O5: the response frame by its fields, the release of the select line by its cases, a frame by its header. -/
theorem framesLeaveTheirResponse : Obligations.FramesLeaveTheirResponse := by
  refine ⟨⟨fun _ _ _ _ _ => rfl, fun _ => ⟨rfl, rfl⟩, rfl, fun r h => Response.frame_header h⟩, ⟨fun s => ⟨fun h => ?_, fun h => ?_⟩,
    fun s h args => ⟨fun hopen => ?_, fun hne hlength hcode => ?_, fun hne hlength hcode => ?_⟩⟩, fun _ _ => rfl, rfl,
    fun h args hbad => ?_, fun h args unread hlength => ?_⟩
  · simp [exec, execFrameAbort, h]
  · cases s
    simp_all [exec, execFrameAbort, State.readFrame]
  · exact congrArg _ (if_pos hopen)
  · have hopen : ¬ (h = 0 ∨ args.length < bits h 12 12) := not_or.2 ⟨hne, Nat.not_lt.2 hlength⟩
    exact congrArg _ ((if_neg hopen).trans (if_pos (List.contains_iff_mem.2 hcode)))
  · have hopen : ¬ (h = 0 ∨ args.length < bits h 12 12) := not_or.2 ⟨hne, Nat.not_lt.2 hlength⟩
    exact congrArg _ ((if_neg hopen).trans (if_neg fun hmem => hcode (List.contains_iff_mem.1 hmem)))
  · rcases hbad with hshort | hcode
    · exact frameCommands_of_short hshort
    · exact frameCommands_of_code_not_mem hcode
  · refine ⟨?_, ?_, ?_, ?_, ?_, ?_, ?_, ?_, ?_, ?_, ?_, ?_, ?_, ?_, ?_⟩ <;>
      exact fun hcode => frameCommands_of_whole hlength (by rw [hcode]; rfl)

/-- Settles O18: the three cases of `State.hand_cases`. -/
theorem notesAreQueuedOrDropped : Obligations.NotesAreQueuedOrDropped := by
  intro s n
  rcases s.hand_cases n with ⟨hmode, hlength, h⟩ | ⟨hmode, hlength, h⟩ | ⟨hmode, h⟩
  · exact ⟨fun _ _ => h, fun _ hfull => by omega, fun hne => absurd hmode hne⟩
  · refine ⟨fun _ hroom => by omega, fun _ _ hdrop => ?_, fun hne => absurd hmode hne⟩
    rw [h, ← satInc_eq_min_of_le hdrop]
    rfl
  · exact ⟨fun hactive => absurd hactive hmode, fun hactive => absurd hactive hmode, fun _ => h⟩

/-- Settles O11: the queue by its cases, the words of an event by its kind. -/
theorem eventQueueIsBoundedFifo : Obligations.EventQueueIsBoundedFifo := by
  refine ⟨⟨fun s h => ?_, fun s e es h => ?_, fun s => ?_⟩, fun s e => ⟨fun h => ?_, fun h hlost => ?_⟩, ?_⟩
  · simp [exec, execNextEvent, State.command, h, State.done, noneWord]
  · simp [exec, execNextEvent, State.command, h, State.done]
  · simp [State.eventLine]
  · simp [State.emit, EventQueue.push, Config.maxEvents, h]
  · rw [← satInc_eq_min_of_le hlost]
    simp [State.emit, EventQueue.push, Config.maxEvents, Nat.not_lt.2 h]
  · refine ⟨fun n su rel => ?_, fun n k su rel => ?_, fun m o n src c f on cause => ?_, fun k b a f r n i q => ?_,
      fun o c st q => ?_, fun m d k c q => ?_, fun c q foreign => ?_⟩
    · rw [Event.words, su.code_eq_idxOf]
      rfl
    · rw [Event.words, su.code_eq_idxOf]
      rfl
    · rw [Event.words, cause.code_eq_idxOf]
      rfl
    · rw [Event.words, b.code_eq_idxOf, a.code_eq_idxOf, f.code_eq_idxOf, r.code_eq_idxOf]
      cases i <;> rfl
    · rw [Event.words, c.code_eq_idxOf]
      cases st <;> rfl
    · rw [Event.words, d.code_eq_idxOf]
    · rw [Event.words, c.code_eq_idxOf]
      cases foreign <;> rfl

end Sys2Proof.Proofs

/-!
SUPPORT. How the argument words of the commands of the control port read back, and which words are outside their ranges
(R71, R187, R188).
-/

namespace Sys2Proof.Machine

variable {args : List Word} {i : Nat}

/-! ### One argument -/

theorem argFin_eq_some_iff {n : Nat} {k : Fin n} : argFin n args i = some k ↔ arg args i = k.val := by
  unfold argFin
  split
  · rw [Option.some_inj, Fin.ext_iff]
  · exact ⟨nofun, fun h => absurd k.isLt (h ▸ ‹_›)⟩

theorem argFin_isSome_iff {n : Nat} : (argFin n args i).isSome ↔ arg args i < n := by
  unfold argFin
  split <;> simp_all

theorem argLevel_eq_some_iff {l : Nat} : argLevel args i = some l ↔ arg args i = l ∧ l ≤ 65535 := by
  unfold argLevel
  split
  · rw [Option.some_inj]
    exact ⟨fun h => ⟨h, h ▸ ‹_›⟩, fun h => h.1⟩
  · exact ⟨nofun, fun ⟨h, hl⟩ => absurd (h ▸ hl) ‹_›⟩

theorem argLevel_isSome_iff : (argLevel args i).isSome ↔ arg args i ≤ 65535 := by
  unfold argLevel
  split <;> simp_all

theorem argFlag_isSome_iff : (argFlag args i).isSome ↔ arg args i ≤ 1 := by
  rw [argFlag, Option.isSome_map, argFin_isSome_iff]
  omega

theorem argFlag_eq_some {b : Bool} (h : argFlag args i = some b) : b = true ↔ arg args i = 1 := by
  obtain ⟨k, hk, rfl⟩ := Option.map_eq_some_iff.1 h
  rw [argFin_eq_some_iff] at hk
  rw [hk, beq_iff_eq]

theorem signExtend_setWidth_sample (x : Sample) : (x.signExtend 32).setWidth 24 = x := by
  ext j hj
  simp [BitVec.getElem_signExtend, hj, Nat.lt_trans hj (by decide : 24 < 32)]

/-- A sample argument is the sign extension of its sample (R187). -/
theorem argSample_eq_some_iff {x : Sample} : argSample args i = some x ↔ args.getD i 0 = x.signExtend 32 := by
  unfold argSample
  dsimp only
  split
  case isTrue h =>
    rw [Option.some_inj]
    exact ⟨fun hx => by rw [← hx, h], fun hx => by rw [hx, signExtend_setWidth_sample]⟩
  case isFalse h =>
    refine ⟨nofun, fun hx => absurd ?_ h⟩
    rw [hx, signExtend_setWidth_sample]

/-! ### A target, an own source and a base input -/

/-- The words of a mix from 0 to 23 or a group from 1 to 7 at a station. -/
def TargetWords (args : List Word) (i : Nat) : Prop :=
  arg args i ≤ 63 ∧ ((arg args (i + 1) = 0 ∧ arg args (i + 2) ≤ 23) ∨
    (arg args (i + 1) = 1 ∧ 1 ≤ arg args (i + 2) ∧ arg args (i + 2) ≤ 7))

theorem argTarget_isSome_iff : (argTarget args i).isSome ↔ TargetWords args i := by
  unfold TargetWords argTarget
  by_cases hst : arg args i < 64
  · by_cases hv : arg args (i + 2) < 32
    · simp only [argFin, hst, hv, dif_pos, Option.bind_eq_bind, Option.bind_some]
      split
      · split
        · simp_all
          omega
        · simp_all
      · split
        · simp_all
          omega
        · simp_all
      · simp_all
    · simp [argFin, hst, hv]
      omega
  · simp [argFin, hst]
    omega

theorem argTarget_eq_some {t : TalkTarget} (h : argTarget args i = some t) : t.station.val = arg args i ∧
    targetKindCode t.kind = arg args (i + 1) ∧ t.value.val = arg args (i + 2) := by
  unfold argTarget at h
  obtain ⟨st, hst, h⟩ := Option.bind_eq_some_iff.1 h
  obtain ⟨v, hv, h⟩ := Option.bind_eq_some_iff.1 h
  rw [argFin_eq_some_iff] at hst hv
  split at h
  case h_1 hkind =>
    split at h <;> cases h
    exact ⟨hst.symm, hkind.symm, hv.symm⟩
  case h_2 hkind =>
    split at h <;> cases h
    exact ⟨hst.symm, hkind.symm, hv.symm⟩
  case h_3 => cases h

theorem argOwnSource_isSome_iff : (argOwnSource args i).isSome ↔
    (arg args i = 0 ∧ arg args (i + 1) ≤ 15) ∨ (arg args i = 1 ∧ arg args (i + 1) ≤ 7) := by
  unfold argOwnSource
  split
  · rw [Option.isSome_map, argFin_isSome_iff]
    omega
  · rw [Option.isSome_map, argFin_isSome_iff]
    omega
  · simp_all

theorem argOwnSource_eq_some {n : SourceNo} (h : argOwnSource args i = some n) :
    n.val = if arg args i = 0 then arg args (i + 1) else 16 + arg args (i + 1) := by
  unfold argOwnSource at h
  split at h
  case h_1 hkind =>
    obtain ⟨k, hk, rfl⟩ := Option.map_eq_some_iff.1 h
    rw [if_pos hkind, argFin_eq_some_iff.1 hk]
  case h_2 hkind =>
    obtain ⟨k, hk, rfl⟩ := Option.map_eq_some_iff.1 h
    rw [if_neg (by omega), argFin_eq_some_iff.1 hk]
  case h_3 => cases h

theorem argBase_isSome_iff : (argBase args i).isSome ↔ arg args i = 3 ∨ (arg args i = 0 ∧ arg args (i + 1) ≤ 15) := by
  unfold argBase
  split
  · rw [Option.isSome_map, argFin_isSome_iff]
    omega
  · simp_all
  · simp_all

theorem argBase_eq_some {b : Option (Fin 16)} (h : argBase args i = some b) :
    b.map Fin.val = if arg args i = 0 then some (arg args (i + 1)) else none := by
  unfold argBase at h
  split at h
  case h_1 hkind =>
    obtain ⟨k, hk, rfl⟩ := Option.map_eq_some_iff.1 h
    rw [if_pos hkind, argFin_eq_some_iff.1 hk]
    rfl
  case h_2 hkind =>
    cases h
    rw [if_neg (by omega)]
    rfl
  case h_3 => cases h

/-! ### The words of CONFIGURE -/

/-- The words of a mix within their ranges; the clamped ones and the index of a base of kind NONE are not read. -/
def MixWords (args : List Word) (i : Nat) : Prop :=
  arg args i ≤ 7 ∧ (arg args (i + 1) = 3 ∨ (arg args (i + 1) = 0 ∧ arg args (i + 2) ≤ 15)) ∧
  arg args (i + 3) ≤ 65535 ∧ arg args (i + 6) ≤ 3 ∧
  (∃ lo hi : Sample, args.getD (i + 7) 0 = lo.signExtend 32 ∧ args.getD (i + 8) 0 = hi.signExtend 32)

theorem argMix_eq_some {x : MixConfig} (h : argMix args i = some x) : MixWords args i ∧
    x.group.val = arg args i ∧ x.base.map Fin.val = (if arg args (i + 1) = 0 then some (arg args (i + 2)) else none) ∧
    x.baseLevel = arg args (i + 3) ∧ x.dimDepth = min (arg args (i + 4)) 32768 ∧ x.dimRamp = min (arg args (i + 5)) 32768 ∧
    x.headroom.val = arg args (i + 6) ∧ x.lo.signExtend 32 = args.getD (i + 7) 0 ∧
    x.hi.signExtend 32 = args.getD (i + 8) 0 ∧ x.protect = min (arg args (i + 9)) 48 := by
  unfold argMix at h
  obtain ⟨group, hgroup, h⟩ := Option.bind_eq_some_iff.1 h
  obtain ⟨base, hbase, h⟩ := Option.bind_eq_some_iff.1 h
  obtain ⟨level, hlevel, h⟩ := Option.bind_eq_some_iff.1 h
  obtain ⟨headroom, hheadroom, h⟩ := Option.bind_eq_some_iff.1 h
  obtain ⟨lo, hlo, h⟩ := Option.bind_eq_some_iff.1 h
  obtain ⟨hi, hhi, h⟩ := Option.bind_eq_some_iff.1 h
  cases h
  have hbaseWords := argBase_isSome_iff.1 (Option.isSome_of_eq_some hbase)
  rw [argFin_eq_some_iff] at hgroup hheadroom
  rw [argLevel_eq_some_iff] at hlevel
  rw [argSample_eq_some_iff] at hlo hhi
  obtain ⟨hlevel, hrange⟩ := hlevel
  exact ⟨⟨by omega, hbaseWords, by omega, by omega, lo, hi, hlo, hhi⟩, hgroup.symm, argBase_eq_some hbase, hlevel.symm, rfl, rfl,
    hheadroom.symm, hlo.symm, hhi.symm, rfl⟩

theorem argMix_isSome_iff : (argMix args i).isSome ↔ MixWords args i := by
  refine ⟨fun h => ?_, ?_⟩
  · obtain ⟨x, hx⟩ := Option.isSome_iff_exists.1 h
    exact (argMix_eq_some hx).1
  · rintro ⟨hgroup, hbase, hlevel, hheadroom, lo, hi, hlo, hhi⟩
    obtain ⟨group, hgroup⟩ := Option.isSome_iff_exists.1 (argFin_isSome_iff.2 (Nat.lt_succ_of_le hgroup))
    obtain ⟨base, hbase⟩ := Option.isSome_iff_exists.1 (argBase_isSome_iff.2 hbase)
    obtain ⟨level, hlevel⟩ := Option.isSome_iff_exists.1 (argLevel_isSome_iff.2 hlevel)
    obtain ⟨headroom, hheadroom⟩ := Option.isSome_iff_exists.1 (argFin_isSome_iff.2 (Nat.lt_succ_of_le hheadroom))
    simp [argMix, hgroup, hbase, hlevel, hheadroom, argSample_eq_some_iff.2 hlo, argSample_eq_some_iff.2 hhi]

/-- The words of a port within their ranges. -/
def PortWords (args : List Word) (i : Nat) : Prop :=
  arg args i ≤ 1 ∧ arg args (i + 1) ≤ 65535 ∧ TargetWords args (i + 3)

theorem argPort_eq_some {x : PortConfig} (h : argPort args i = some x) : PortWords args i ∧
    (x.enabled = true ↔ arg args i = 1) ∧ x.access.toNat = arg args (i + 1) * 4294967296 + arg args (i + 2) ∧
    x.target.station.val = arg args (i + 3) ∧ targetKindCode x.target.kind = arg args (i + 4) ∧
    x.target.value.val = arg args (i + 5) := by
  unfold argPort at h
  obtain ⟨enabled, henabled, h⟩ := Option.bind_eq_some_iff.1 h
  obtain ⟨high, hhigh, h⟩ := Option.bind_eq_some_iff.1 h
  obtain ⟨target, htarget, h⟩ := Option.bind_eq_some_iff.1 h
  cases h
  obtain ⟨hhighWord, hrange⟩ := argLevel_eq_some_iff.1 hhigh
  refine ⟨⟨argFlag_isSome_iff.1 (Option.isSome_of_eq_some henabled), by omega,
    argTarget_isSome_iff.1 (Option.isSome_of_eq_some htarget)⟩, argFlag_eq_some henabled, ?_, argTarget_eq_some htarget⟩
  show (BitVec.ofNat 16 high ++ args.getD (i + 2) 0).toNat = _
  rw [BitVec.toNat_append, BitVec.toNat_ofNat, Nat.mod_eq_of_lt (by omega), Nat.shiftLeft_eq, Nat.mul_comm,
    ← Nat.two_pow_add_eq_or_of_lt (args.getD (i + 2) 0).isLt, hhighWord]
  exact congrArg (· + _) (Nat.mul_comm _ _)

theorem argPort_isSome_iff : (argPort args i).isSome ↔ PortWords args i := by
  refine ⟨fun h => ?_, ?_⟩
  · obtain ⟨x, hx⟩ := Option.isSome_iff_exists.1 h
    exact (argPort_eq_some hx).1
  · rintro ⟨henabled, hhigh, htarget⟩
    obtain ⟨enabled, henabled⟩ := Option.isSome_iff_exists.1 (argFlag_isSome_iff.2 henabled)
    obtain ⟨high, hhigh⟩ := Option.isSome_iff_exists.1 (argLevel_isSome_iff.2 hhigh)
    obtain ⟨target, htarget⟩ := Option.isSome_iff_exists.1 (argTarget_isSome_iff.2 htarget)
    simp [argPort, henabled, hhigh, htarget]

/-- The words of CONFIGURE within their ranges. -/
def ConfigurationWords (args : List Word) : Prop :=
  arg args 0 ≤ 62 ∧ arg args 2 ≤ 3 ∧ (∀ c : Cls, arg args (3 + c.val) ≤ 65535) ∧
  (∀ m : Mix, MixWords args (7 + 10 * m.val)) ∧ ∀ k : PortNo, PortWords args (247 + 6 * k.val)

theorem all_range_isSome_iff {α : Type} {n : Nat} {f : Nat → Option α} {P : Nat → Prop} (hf : ∀ j, (f j).isSome ↔ P j) :
    (List.range n).all (fun j => (f j).isSome) = true ↔ ∀ j : Fin n, P j.val := by
  simp only [List.all_eq_true, List.mem_range, hf]
  exact ⟨fun h j => h j.val j.isLt, fun h j hj => h ⟨j, hj⟩⟩

/-- The three checks of CONFIGURE's words behind the number and the class. -/
theorem argConfiguration_eq_bind (args : List Word) : argConfiguration args =
    (argFin 64 args 0).bind fun number => (argFin 4 args 2).bind fun cls =>
      if number.val = 63 ∨ ¬ (List.range 4).all (fun c => (argLevel args (3 + c)).isSome) then none
      else if ¬ (List.range 24).all (fun m => (argMix args (7 + 10 * m)).isSome) then none
      else if ¬ (List.range 8).all (fun k => (argPort args (247 + 6 * k)).isSome) then none
      else some
        { number := number
          jitterTarget := max 1 (min (arg args 1) 6)
          fixedClass := cls
          talkLevels := Vector.ofFn fun c => arg args (3 + c.val)
          mixes := Vector.ofFn fun m => (argMix args (7 + 10 * m.val)).getD MixConfig.reset
          ports := Vector.ofFn fun k => (argPort args (247 + 6 * k.val)).getD ⟨false, 0, ⟨0, .mix, 0⟩⟩ } := by
  unfold argConfiguration
  refine congrArg _ (funext fun number => congrArg _ (funext fun cls => ?_))
  dsimp only
  by_cases hlevels : number.val = 63 ∨ ¬ (List.range 4).all (fun c => (argLevel args (3 + c)).isSome)
  · rw [if_pos hlevels, if_pos hlevels]
    rfl
  by_cases hmixes : ¬ (List.range 24).all (fun m => (argMix args (7 + 10 * m)).isSome)
  · rw [if_neg hlevels, if_neg hlevels, if_pos hmixes, if_pos hmixes]
    rfl
  by_cases hports : ¬ (List.range 8).all (fun k => (argPort args (247 + 6 * k)).isSome)
  · rw [if_neg hlevels, if_neg hlevels, if_neg hmixes, if_neg hmixes, if_pos hports, if_pos hports]
    rfl
  · rw [if_neg hlevels, if_neg hlevels, if_neg hmixes, if_neg hmixes, if_neg hports, if_neg hports]
    rfl

theorem argConfiguration_eq_some {c : Configuration} (h : argConfiguration args = some c) : ConfigurationWords args ∧
    c.number.val = arg args 0 ∧ c.fixedClass.val = arg args 2 ∧ c.jitterTarget = max 1 (min (arg args 1) 6) ∧
    (∀ k : Fin 4, c.talkLevels[k] = arg args (3 + k.val)) ∧
    (∀ m : Mix, argMix args (7 + 10 * m.val) = some c.mixes[m]) ∧
    ∀ k : PortNo, argPort args (247 + 6 * k.val) = some c.ports[k] := by
  rw [argConfiguration_eq_bind] at h
  obtain ⟨number, hnumber, h⟩ := Option.bind_eq_some_iff.1 h
  obtain ⟨cls, hcls, h⟩ := Option.bind_eq_some_iff.1 h
  rw [argFin_eq_some_iff] at hnumber hcls
  split at h
  · cases h
  case isFalse hlevels =>
  split at h
  · cases h
  case isFalse hmixes =>
  split at h
  · cases h
  case isFalse hports =>
  cases h
  rw [not_or, not_not, all_range_isSome_iff (P := fun k => arg args (3 + k) ≤ 65535) fun j => argLevel_isSome_iff] at hlevels
  rw [not_not, all_range_isSome_iff (P := fun j => MixWords args (7 + 10 * j)) fun j => argMix_isSome_iff] at hmixes
  rw [not_not, all_range_isSome_iff (P := fun j => PortWords args (247 + 6 * j)) fun j => argPort_isSome_iff] at hports
  obtain ⟨hstation, hlevels⟩ := hlevels
  refine ⟨⟨by omega, by omega, hlevels, hmixes, hports⟩, hnumber.symm, hcls.symm, rfl, fun k => ?_, fun m => ?_, fun k => ?_⟩
  · simp
  · obtain ⟨x, hx⟩ := Option.isSome_iff_exists.1 (argMix_isSome_iff.2 (hmixes m))
    simp [hx]
  · obtain ⟨x, hx⟩ := Option.isSome_iff_exists.1 (argPort_isSome_iff.2 (hports k))
    simp [hx]

theorem exists_argConfiguration (h : ConfigurationWords args) : ∃ c, argConfiguration args = some c := by
  obtain ⟨hnumber, hcls, hlevels, hmixes, hports⟩ := h
  have hall := (all_range_isSome_iff (P := fun k => arg args (3 + k) ≤ 65535) fun j => argLevel_isSome_iff).2 hlevels
  have hmixes := (all_range_isSome_iff (P := fun j => MixWords args (7 + 10 * j)) fun j => argMix_isSome_iff).2 hmixes
  have hports := (all_range_isSome_iff (P := fun j => PortWords args (247 + 6 * j)) fun j => argPort_isSome_iff).2 hports
  have hstation : ¬ arg args 0 = 63 := by omega
  rw [argConfiguration_eq_bind, argFin, dif_pos (by omega), argFin, dif_pos (by omega)]
  simp only [Option.bind_some, hstation, hall, hmixes, hports, not_true_eq_false, or_self, if_false]
  exact ⟨_, rfl⟩

theorem argConfiguration_eq_none (h : ¬ ConfigurationWords args) : argConfiguration args = none :=
  Option.eq_none_iff_forall_ne_some.2 fun _ hc => h (argConfiguration_eq_some hc).1

/-! ### The words of KEY-DOWN -/

/-- The words of KEY-DOWN within their ranges: no MIX of all stations. -/
def KeyWords (args : List Word) : Prop :=
  ((arg args 0 = 0 ∧ arg args 1 ≤ 15) ∨ (arg args 0 = 1 ∧ arg args 1 ≤ 7)) ∧ arg args 2 ≤ 63 ∧
  ((arg args 3 = 0 ∧ arg args 4 ≤ 23 ∧ arg args 2 ≠ 63) ∨ (arg args 3 = 1 ∧ 1 ≤ arg args 4 ∧ arg args 4 ≤ 7)) ∧
  arg args 5 ≤ 3 ∧ arg args 6 ≤ 1

theorem targetKindCode_eq_zero_iff {k : TargetKind} : targetKindCode k = 0 ↔ k = .mix := by cases k <;> decide

theorem argKey_eq_some {k : KeyArgs} (h : argKey args = some k) : KeyWords args ∧
    k.source.val = (if arg args 0 = 0 then arg args 1 else 16 + arg args 1) ∧
    k.target.station.val = arg args 2 ∧ k.target.kind = (if arg args 3 = 0 then .mix else .group) ∧
    k.target.value.val = arg args 4 ∧ k.cls.val = arg args 5 ∧ (k.intr = true ↔ arg args 6 = 1) := by
  unfold argKey at h
  obtain ⟨source, hsource, h⟩ := Option.bind_eq_some_iff.1 h
  obtain ⟨target, htarget, h⟩ := Option.bind_eq_some_iff.1 h
  obtain ⟨cls, hcls, h⟩ := Option.bind_eq_some_iff.1 h
  obtain ⟨intr, hintr, h⟩ := Option.bind_eq_some_iff.1 h
  split at h
  · cases h
  case isFalse hall =>
  cases h
  obtain ⟨hstation, hkind, hvalue⟩ := argTarget_eq_some htarget
  obtain ⟨hstationRange, hkindRange⟩ := argTarget_isSome_iff.1 (Option.isSome_of_eq_some htarget)
  have hsourceRange := argOwnSource_isSome_iff.1 (Option.isSome_of_eq_some hsource)
  have hintrRange := argFlag_isSome_iff.1 (Option.isSome_of_eq_some hintr)
  rw [argFin_eq_some_iff] at hcls
  rw [← targetKindCode_eq_zero_iff] at hall
  simp only [Nat.reduceAdd] at hkind hvalue hkindRange
  refine ⟨⟨hsourceRange, hstationRange, by omega, by omega, hintrRange⟩, argOwnSource_eq_some hsource, hstation, ?_, hvalue,
    hcls.symm, argFlag_eq_some hintr⟩
  show target.kind = _
  rw [← hkind]
  cases target.kind <;> rfl

theorem exists_argKey (h : KeyWords args) : ∃ k, argKey args = some k := by
  obtain ⟨hsource, hstation, htarget, hcls, hintr⟩ := h
  obtain ⟨source, hsource⟩ := Option.isSome_iff_exists.1 (argOwnSource_isSome_iff.2 hsource)
  have htargetWords : TargetWords args 2 := ⟨hstation, by simp only [Nat.reduceAdd]; omega⟩
  obtain ⟨target, htargetEq⟩ := Option.isSome_iff_exists.1 (argTarget_isSome_iff.2 htargetWords)
  obtain ⟨cls, hcls⟩ := Option.isSome_iff_exists.1 (argFin_isSome_iff.2 (Nat.lt_succ_of_le hcls))
  obtain ⟨intr, hintr⟩ := Option.isSome_iff_exists.1 (argFlag_isSome_iff.2 hintr)
  obtain ⟨hst, hkind, -⟩ := argTarget_eq_some htargetEq
  have hall : ¬ (target.station.val = 63 ∧ target.kind = .mix) := by
    rw [← targetKindCode_eq_zero_iff, hst, hkind]
    simp only [Nat.reduceAdd]
    omega
  simp only [argKey, hsource, htargetEq, hcls, hintr, Option.bind_eq_bind, Option.bind_some, if_neg hall]
  exact ⟨_, rfl⟩

theorem argKey_eq_none (h : ¬ KeyWords args) : argKey args = none :=
  Option.eq_none_iff_forall_ne_some.2 fun _ hk => h (argKey_eq_some hk).1

/-! ### The words of SET-ROUTE -/

/-- The words of SET-ROUTE outside their ranges, with the own station or station 63 as a remote one. -/
theorem argRoute_eq_none {own : Option Station} (h : 23 < arg args 0 ∨ 65535 < arg args 4 ∨ 2 < arg args 1 ∨
    (arg args 1 = 0 ∧ 15 < arg args 2) ∨ (arg args 1 = 1 ∧ 7 < arg args 2) ∨ (arg args 1 = 2 ∧ 23 < arg args 2) ∨
    (arg args 1 = 2 ∧ (63 ≤ arg args 3 ∨ some (arg args 3) = own.map Fin.val))) : argRoute own args = none := by
  refine Option.eq_none_iff_forall_ne_some.2 fun r hr => ?_
  unfold argRoute at hr
  obtain ⟨m, hm, hr⟩ := Option.bind_eq_some_iff.1 hr
  obtain ⟨l, hl, hr⟩ := Option.bind_eq_some_iff.1 hr
  rw [argFin_eq_some_iff] at hm
  obtain ⟨hl, hrange⟩ := argLevel_eq_some_iff.1 hl
  split at hr
  case h_1 hkind =>
    obtain ⟨n, hn, -⟩ := Option.map_eq_some_iff.1 hr
    rw [argFin_eq_some_iff] at hn
    omega
  case h_2 hkind =>
    obtain ⟨n, hn, -⟩ := Option.map_eq_some_iff.1 hr
    rw [argFin_eq_some_iff] at hn
    omega
  case h_3 hkind =>
    obtain ⟨n, hn, hr⟩ := Option.bind_eq_some_iff.1 hr
    obtain ⟨st, hst, hr⟩ := Option.bind_eq_some_iff.1 hr
    rw [argFin_eq_some_iff] at hn hst
    split at hr
    · cases hr
    case isFalse hremote =>
      rw [not_or] at hremote
      obtain ⟨h63, hown⟩ := hremote
      have hownArg : some (arg args 3) ≠ own.map Fin.val := fun heq => by
        obtain ⟨o, ho, hval⟩ := Option.map_eq_some_iff.1 heq.symm
        exact hown (by rw [ho, Option.some_inj, Fin.ext_iff, hval, hst])
      simp only [hownArg, or_false] at h
      omega
  case h_4 h0 h1 h2 => cases hr

section
variable {own : Option Station} {m : Mix} {l : Nat} (hm : arg args 0 = m.val) (hl : arg args 4 = l) (hrange : l ≤ 65535)
include hm hl hrange

theorem argRoute_loc {n : Fin 16} (hkind : arg args 1 = 0) (hn : arg args 2 = n.val) :
    argRoute own args = some ⟨m, .loc n, l⟩ := by
  simp [argRoute, argFin_eq_some_iff.2 hm, argLevel_eq_some_iff.2 ⟨hl, hrange⟩, hkind, argFin_eq_some_iff.2 hn]

theorem argRoute_field {k : PortNo} (hkind : arg args 1 = 1) (hk : arg args 2 = k.val) :
    argRoute own args = some ⟨m, .field k, l⟩ := by
  simp [argRoute, argFin_eq_some_iff.2 hm, argLevel_eq_some_iff.2 ⟨hl, hrange⟩, hkind, argFin_eq_some_iff.2 hk]

theorem argRoute_remote {i : SourceNo} {st : Station} (hkind : arg args 1 = 2) (hi : arg args 2 = i.val)
    (hst : arg args 3 = st.val) (h63 : st.val ≠ 63) (hown : some st ≠ own) :
    argRoute own args = some ⟨m, .remote ⟨st, i⟩, l⟩ := by
  simp [argRoute, argFin_eq_some_iff.2 hm, argLevel_eq_some_iff.2 ⟨hl, hrange⟩, hkind, argFin_eq_some_iff.2 hi,
    argFin_eq_some_iff.2 hst, h63, hown]

end

end Sys2Proof.Machine

namespace Sys2Proof.Proofs

open Sys2Proof.Machine

/-- Settles O16: words in their ranges by the kind of input, the others by `argRoute_eq_none`. -/
theorem setRouteReadsItsArguments : Obligations.SetRouteReadsItsArguments := by
  intro s m l x
  have hm : (word m.val).toNat = m.val := word_toNat_of_lt (by omega)
  have hl : (word l.val).toNat = l.val := word_toNat_of_lt (by omega)
  refine ⟨fun n => ?_, fun k => ?_, fun st i hst hown => ?_, fun a b c d e hmode hbad => ?_⟩
  · exact argRoute_loc (args := [_, _, _, _, _]) hm hl (by omega) rfl (word_toNat_of_lt (by omega))
  · exact argRoute_field (args := [_, _, _, _, _]) hm hl (by omega) rfl (word_toNat_of_lt (by omega))
  · exact argRoute_remote (args := [_, _, _, _, _]) hm hl (by omega) rfl (word_toNat_of_lt (by omega))
      (word_toNat_of_lt (by omega)) hst hown
  · have hnone : argRoute s.cfg.number [a, b, c, d, e] = none := by
      refine argRoute_eq_none ?_
      simp only [BitVec.toNat_inj.symm] at hbad
      exact hbad
    show Host.Outcome.next (s.configuredCommand codeSetRoute 5 [a, b, c, d, e] _) = _
    rw [State.configuredCommand_of_configured hmode (args := [a, b, c, d, e]) (n := 5) rfl, hnone]
    rfl

/-- Settles O28: `argKey` reads exactly the words of `KeyWords`. -/
theorem keyDownChecksArguments : Obligations.KeyDownChecksArguments := by
  refine ⟨fun args h => ?_, fun args h => argKey_eq_none h, fun s args hmode hlength => ⟨fun h => ?_, fun h hheld => ?_⟩⟩
  · obtain ⟨k, hk⟩ := exists_argKey h
    exact ⟨k, hk, (argKey_eq_some hk).2⟩
  · show Host.Outcome.next (s.configuredCommand codeKeyDown 7 args _) = _
    rw [State.configuredCommand_of_configured hmode hlength, argKey_eq_none h]
    rfl
  · obtain ⟨k, hk⟩ := exists_argKey h
    have hfull : s.freeTalk = none := List.find?_eq_none.2 fun n _ => by
      rw [Option.isNone_iff_eq_none]
      exact hheld n
    show Host.Outcome.next (s.configuredCommand codeKeyDown 7 args _) = _
    rw [State.configuredCommand_of_configured hmode hlength, hk]
    dsimp only
    rw [hfull]
    rfl

/-- Settles O13: `argConfiguration` reads exactly the words of `ConfigurationWords`, each field from its place. -/
theorem configureChecksItsArguments : Obligations.ConfigureChecksItsArguments := by
  refine ⟨fun args c hc => ?_, fun s args => ⟨exists_argConfiguration, fun hlength hmode => ?_, fun hlength hmode h => ?_⟩⟩
  · obtain ⟨⟨hnumber, -, hlevels, -⟩, hstation, hcls, htarget, htalk, hmixes, hports⟩ := argConfiguration_eq_some hc
    refine ⟨hstation, by omega, htarget, hcls, fun k => ⟨htalk k, by rw [htalk]; exact hlevels k⟩, fun m => ?_, fun k => ?_⟩
    · have hmix := (argMix_eq_some (hmixes m)).2
      simpa only [Nat.add_right_comm _ (10 * m.val), Nat.reduceAdd] using hmix
    · have hport := (argPort_eq_some (hports k)).2
      simpa only [Nat.add_right_comm _ (6 * k.val), Nat.reduceAdd] using hport
  · show Host.Outcome.next (s.command codeConfigure 295 args _) = _
    rw [s.command_of_length_eq hlength, if_pos (State.configured_of_mode_ne hmode)]
    rfl
  · show Host.Outcome.next (s.command codeConfigure 295 args _) = _
    rw [s.command_of_length_eq hlength, State.configured_of_mode_eq hmode, argConfiguration_eq_none h]
    rfl

end Sys2Proof.Proofs

/-!
SUPPORT. The words of the reads: incoming and outgoing talks, feeds, field ports, listen entries, send entries and the
roster (R46, R66, R82, R101, R114, R116, R128, R158, R173).
-/

namespace Sys2Proof.Machine

/-- A list of items without fields of their own behind it, over the items of two lists. -/
theorem listWords_append {α β : Type} (f : α → List Word) (g : β → List Word) (as : List α) (bs : List β) :
    listWords (as.map f ++ bs.map g) = word (as.length + bs.length) :: (as.flatMap f ++ bs.flatMap g) := by
  simp [listWords, List.flatMap_def]

theorem State.outTalkWords_eq (s : State) (n : TalkNo) (t : OutTalk) : s.outTalkWords n t =
    [word n.val] ++ ownInputWords t.source ++ [word t.target.station.val, word (targetKindCode t.target.kind),
      word t.target.value.val, word t.cls.val, flagWord t.intr, word t.origin.code, word t.replies.length] ++
    (t.replies.flatMap fun r => [word r.station.val, word r.mix.val, word r.answer.code, word r.reason.code]) ++
    [word t.overflow, word t.summary.code, word (s.elapsedSat t.created), flagWord t.heard] := by
  simp [State.outTalkWords, TalkTarget.words, listWords_map]

/-! ### The stored sequences of a listen entry -/

namespace ListenEntry

/-- The stored sequences as READ-LISTEN gives them. -/
def storedSeqs (e : ListenEntry) : List Seq :=
  match e.play with
  | none => e.buffer.map fun b => b.seq
  | some p => ((List.range 8).map fun d => p + BitVec.ofNat 16 d).filter e.holds

theorem serialDiff_add_ofNat (p : Seq) {d : Nat} (hd : d < 8) : serialDiff (p + BitVec.ofNat 16 d) p = d := by
  have hsub : p + BitVec.ofNat 16 d - p = BitVec.ofNat 16 d := by
    rw [BitVec.add_comm, BitVec.add_sub_cancel]
  rw [serialDiff, hsub, BitVec.toInt_eq_toNat_of_lt (by rw [BitVec.toNat_ofNat]; omega), BitVec.toNat_ofNat]
  omega

/-- A sequence within the window is the play sequence and its serial difference. -/
theorem exists_eq_add_ofNat {q p : Seq} (hlow : 0 ≤ serialDiff q p) (hhigh : serialDiff q p ≤ 7) :
    ∃ d < 8, p + BitVec.ofNat 16 d = q := by
  refine ⟨(q - p).toNat, ?_, ?_⟩
  · unfold serialDiff at hlow hhigh
    rw [BitVec.toInt_eq_toNat_cond] at hlow hhigh
    split at hhigh <;> omega
  · rw [BitVec.ofNat_toNat, BitVec.setWidth_eq, BitVec.add_comm, BitVec.sub_add_cancel]

theorem holds_iff {e : ListenEntry} {q : Seq} : e.holds q = true ↔ q ∈ e.buffer.map Stored.seq := by
  simp [holds]

theorem storedSeqs_pairwise {e : ListenEntry} {p : Seq} (hp : e.play = some p) :
    e.storedSeqs.Pairwise fun a b => serialDiff a p < serialDiff b p := by
  rw [storedSeqs, hp]
  refine List.Pairwise.filter _ (List.pairwise_map.2 (List.pairwise_lt_range.imp_of_mem fun ha hb hlt => ?_))
  rw [List.mem_range] at ha hb
  rw [serialDiff_add_ofNat p ha, serialDiff_add_ofNat p hb]
  exact_mod_cast hlt

theorem storedSeqs_perm {e : ListenEntry} (h : e.InWindow) : e.storedSeqs.Perm (e.buffer.map Stored.seq) := by
  obtain ⟨hnodup, hwindow⟩ := h
  cases hp : e.play with
  | none =>
    rw [storedSeqs, hp]
  | some p =>
    rw [hp] at hwindow
    have hsorted := storedSeqs_pairwise hp
    refine (List.perm_ext_iff_of_nodup (hsorted.imp fun hlt heq => ?_) hnodup).2 fun q => ?_
    · rw [heq] at hlt
      exact lt_irrefl _ hlt
    · rw [storedSeqs, hp]
      simp only [List.mem_filter, List.mem_map, List.mem_range, holds_iff]
      refine ⟨fun hq => hq.2, fun hq => ⟨?_, hq⟩⟩
      obtain ⟨b, hb, rfl⟩ := hq
      obtain ⟨hlow, hhigh⟩ := hwindow.2 b hb
      exact exists_eq_add_ofNat hlow hhigh

end ListenEntry

theorem State.listenWords_eq (s : State) (e : ListenEntry) : s.listenWords e =
    [word e.source.station.val, word e.source.index.val, word e.refCount, word e.cls.val, word e.state.code,
      flagWord e.absent, optWord (e.play.map BitVec.toNat), word e.storedSeqs.length] ++
    (e.storedSeqs.map fun q => word q.toNat) ++
    [word e.miss, word e.lateRx, word e.dup, word e.resync, word e.conceal, optWord (e.lastJoin.map s.elapsedSat)] := by
  have hwords : ∀ l : List Seq, listWords (l.map fun q => [word q.toNat]) = word l.length :: l.map fun q => word q.toNat :=
    fun l => by rw [listWords_map, ← List.map_eq_flatMap]
  unfold State.listenWords
  dsimp only
  rw [hwords]
  simp only [List.cons_append, List.nil_append]
  rfl

/-! ### The class of a send entry -/

theorem foldl_min_le (l : List Cls) : ∀ c : Cls, l.foldl min c ≤ c ∧ ∀ x ∈ l, l.foldl min c ≤ x := by
  induction l with
  | nil => exact fun c => ⟨le_rfl, nofun⟩
  | cons y l ih =>
    intro c
    obtain ⟨hstart, hall⟩ := ih (min c y)
    refine ⟨hstart.trans (min_le_left c y), fun x hx => ?_⟩
    rcases List.mem_cons.1 hx with rfl | hx
    · exact hstart.trans (min_le_right c x)
    · exact hall x hx

theorem foldl_min_mem (l : List Cls) : ∀ c : Cls, l.foldl min c = c ∨ l.foldl min c ∈ l := by
  induction l with
  | nil => exact fun c => .inl rfl
  | cons y l ih =>
    intro c
    rcases ih (min c y) with h | h
    · rcases min_choice c y with hc | hy
      · exact .inl (h.trans hc)
      · exact .inr (List.mem_cons.2 (.inl (h.trans hy)))
    · exact .inr (List.mem_cons.2 (.inr h))

/-- The class of a send entry is the lowest of its subscribers (R116). -/
theorem State.sendClass_eq_some_iff {s : State} {n : SourceNo} {c : Cls} : s.sendClass n = some c ↔
    (∃ y ∈ s.sends[n], y.cls = c) ∧ ∀ y ∈ s.sends[n], c ≤ y.cls := by
  unfold State.sendClass
  cases hl : s.sends[n] with
  | nil => simp
  | cons x xs =>
    simp only [List.map_cons, Option.some_inj]
    obtain ⟨hfirst, hrest⟩ := foldl_min_le (xs.map Subscriber.cls) x.cls
    have hleast : ∀ y ∈ x :: xs, (xs.map Subscriber.cls).foldl min x.cls ≤ y.cls := fun y hy => by
      rcases List.mem_cons.1 hy with rfl | hy
      · exact hfirst
      · exact hrest _ (List.mem_map_of_mem hy)
    have hmem : ∃ y ∈ x :: xs, y.cls = (xs.map Subscriber.cls).foldl min x.cls := by
      rcases foldl_min_mem (xs.map Subscriber.cls) x.cls with h | h
      · exact ⟨x, List.mem_cons_self, h.symm⟩
      · obtain ⟨y, hy, hcls⟩ := List.mem_map.1 h
        exact ⟨y, List.mem_cons_of_mem x hy, hcls⟩
    refine ⟨fun h => h ▸ ⟨hmem, hleast⟩, fun ⟨⟨y, hy, hc⟩, hall⟩ => ?_⟩
    obtain ⟨z, hz, hmin⟩ := hmem
    exact le_antisymm (hc ▸ hleast y hy) (hmin ▸ hall z hz)

theorem State.sendClass_eq_none_iff {s : State} {n : SourceNo} : s.sendClass n = none ↔ s.sends[n] = [] := by
  unfold State.sendClass
  cases s.sends[n] with
  | nil => simp
  | cons x xs => simp

end Sys2Proof.Machine

namespace Sys2Proof.Proofs

open Sys2Proof.Machine

/-- Settles O8: a number in its range reads the record of its place, any other is answered BAD_ARG. -/
theorem talkFeedAndFieldReadsReturnState : Obligations.TalkFeedAndFieldReadsReturnState := by
  refine ⟨⟨fun s m => ?_, fun s n hn => ?_, fun s n t hn => ?_, fun s w hw => ?_, fun s w hw => ?_⟩,
    fun s m => ?_, fun s k => ?_, fun s w hw => ?_, fun s w hw => ?_⟩
  · refine (congrArg _ (s.read_word _ (by decide) m _)).trans ?_
    rw [listWords_append]
    rfl
  · refine (congrArg _ (s.read_word _ (by decide) n _)).trans ?_
    rw [hn]
    rfl
  · refine (congrArg _ (s.read_word _ (by decide) n _)).trans ?_
    rw [hn]
    dsimp only
    rw [s.outTalkWords_eq]
    rfl
  · exact congrArg _ (s.read_out_of_range _ hw _)
  · exact congrArg _ (s.read_out_of_range _ hw _)
  · exact congrArg _ (s.read_word _ (by decide) m _)
  · exact congrArg _ (s.read_word _ (by decide) k _)
  · exact congrArg _ (s.read_out_of_range _ hw _)
  · exact congrArg _ (s.read_out_of_range _ hw _)

/-- Settles O9: the stored sequences are those of the window that the entry holds, the class the least of the subscribers. -/
theorem listenSendAndRosterReadsReturnState : Obligations.ListenSendAndRosterReadsReturnState := by
  refine ⟨⟨fun s k hk => ?_, fun s k e hk hwindow => ?_, fun s w hw => ?_⟩, ⟨fun s n => ?_, fun s w hw => ?_⟩, fun s => rfl⟩
  · refine (congrArg _ (s.read_word _ (by decide) k _)).trans ?_
    rw [hk]
    rfl
  · refine ⟨e.storedSeqs, ListenEntry.storedSeqs_perm (hwindow k e hk), fun p hp => ListenEntry.storedSeqs_pairwise hp, ?_⟩
    refine (congrArg _ (s.read_word _ (by decide) k _)).trans ?_
    rw [hk]
    dsimp only
    rw [s.listenWords_eq]
    rfl
  · exact congrArg _ (s.read_out_of_range _ hw _)
  · refine ⟨s.sendClass n, State.sendClass_eq_none_iff.symm, fun x hx => State.sendClass_eq_some_iff.1 hx, ?_⟩
    refine (congrArg _ (s.read_word _ (by decide) n _)).trans ?_
    rw [listWords_map]
    rfl
  · exact congrArg _ (s.read_out_of_range _ hw _)

end Sys2Proof.Proofs

/-!
SUPPORT. The frame of a talk step and of a listen step as an equation; the route table by its operations: recomputing,
SET-ROUTE, holds, releases and exchanges, with what the listen table is told (R4, R6 to R13).
-/

namespace Sys2Proof.Machine

variable {s t : State}

/-! ### Frames as equations -/

/-- What a talk step leaves, as one equation. -/
theorem State.TalkStep.eq (h : s.TalkStep t) : t = { s with
    routes := t.routes, talks := t.talks, outTalks := t.outTalks, listens := t.listens
    sched := { s.sched with notes := t.sched.notes }, counters := t.counters, events := t.events } := by
  obtain ⟨h1, h2, h3, h4, h5, h6, h7, h8, hqueues, hlast, h9, h10, h11, h12, h13, h14, h15⟩ := h
  obtain ⟨_, _, _, _, _, _, _, _, _, _, _, ⟨_, _, _⟩, _, _, _, _, _, _, _, _, _, _⟩ := t
  simp only at h1 h2 h3 h4 h5 h6 h7 h8 hqueues hlast h9 h10 h11 h12 h13 h14 h15
  subst h1 h2 h3 h4 h5 h6 h7 h8 hqueues hlast h9 h10 h11 h12 h13 h14 h15
  rfl

/-- What a listen step leaves, as one equation. -/
theorem State.ListenStep.eq (h : s.ListenStep t) : t = { s with
    listens := t.listens, sched := { s.sched with notes := t.sched.notes }, counters := t.counters } := by
  have hframe := h.toTalkStep.eq
  rwa [h.routes, h.talks, h.outTalks, h.events] at hframe

/-- The entries of a mix and what the listen table is told of them. -/
theorem State.setRoutes_tellListens_eq (s : State) (m : Mix) (l : List Route) (rs : List Remote) :
    let t := (s.setRoutes m l).tellListens rs
    t.routes = s.routes.set m l ∧ t = { s with
      routes := s.routes.set m l, listens := t.listens, sched := { s.sched with notes := t.sched.notes }
      counters := t.counters } :=
  ⟨((s.setRoutes m l).tellListens_listenStep rs).routes, ((s.setRoutes m l).tellListens_listenStep rs).eq⟩

/-! ### The summary of a talk -/

theorem summaryOf_eq (rs : List Reply) (heard ran : Bool) : summaryOf rs heard ran =
    if ∃ r ∈ rs, r.answer = .granted then .granted
    else if (∃ r ∈ rs, r.answer = .waiting) ∨ ∃ r ∈ rs, r.answer = .preempted then .waiting
    else if (∃ r ∈ rs, r.answer = .refused) ∨ ∃ r ∈ rs, r.answer = .lapsed then .refused
    else if rs = [] ∧ heard = false ∧ ran = true then .unanswered
    else .pending := by
  simp [summaryOf, List.any_eq_true, and_or_left, exists_or, and_assoc]

/-! ### Recomputing an entry -/

theorem foldl_max_spec (l : List Nat) : ∀ a : Nat, a ≤ l.foldl max a ∧ (∀ x ∈ l, x ≤ l.foldl max a) ∧
    (l.foldl max a = a ∨ l.foldl max a ∈ l) := by
  induction l with
  | nil => exact fun a => ⟨le_rfl, nofun, .inl rfl⟩
  | cons y l ih =>
    intro a
    obtain ⟨hstart, hall, hmem⟩ := ih (max a y)
    refine ⟨(le_max_left a y).trans hstart, fun x hx => ?_, ?_⟩
    · rcases List.mem_cons.1 hx with rfl | hx
      · exact (le_max_right a x).trans hstart
      · exact hall x hx
    · rcases hmem with h | h
      · rcases max_choice a y with ha | hy
        · exact .inl (h.trans ha)
        · exact .inr (List.mem_cons.2 (.inl (h.trans hy)))
      · exact .inr (List.mem_cons.2 (.inr h))

theorem minClass_le {l : List Cls} {c : Cls} (h : c ∈ l) : minClass l ≤ c := (foldl_min_le l 3).2 c h

theorem minClass_mem {l : List Cls} (h : l ≠ []) : minClass l ∈ l := by
  rcases foldl_min_mem l 3 with h3 | hmem
  · obtain ⟨c, hc⟩ := List.exists_mem_of_ne_nil l h
    have hle : (3 : Cls) ≤ c := h3 ▸ minClass_le hc
    have heq : c = 3 := le_antisymm (Fin.le_last c) hle
    exact (show minClass l = c from h3.trans heq.symm) ▸ hc
  · exact hmem

/-- The least class of a list is the one class of its elements that none is below. -/
theorem minClass_eq {l : List Cls} {c : Cls} (hmem : c ∈ l) (hleast : ∀ x ∈ l, c ≤ x) : minClass l = c :=
  le_antisymm (minClass_le hmem) (hleast _ (minClass_mem (List.ne_nil_of_mem hmem)))

/-! ### SET-ROUTE -/

theorem exec_setRoute {args : List Word} {r : RouteArgs} (hmode : s.mode ≠ .unconfigured) (hlength : args.length = 5)
    (hr : argRoute s.cfg.number args = some r) : exec (.setRoute args) s =
      .next (if loops r.mix r.input then s.refuse codeSetRoute .loop else s.routeCommand r) := by
  show Host.Outcome.next (s.configuredCommand codeSetRoute 5 args _) = _
  rw [State.configuredCommand_of_configured hmode hlength, hr]

/-- What SET-ROUTE answers with DONE leaves, whatever entries it put. -/
theorem State.setRoutes_tell_done (s : State) (m : Mix) (l : List Route) (rs : List Remote) :
    let t := ((s.setRoutes m l).tellListens rs).done codeSetRoute []
    t.routes = s.routes.set m l ∧
    t = (({ s with routes := t.routes } : State).tellListens rs).respond 0x04 .done .none [] ∧
    t = { s with
      routes := t.routes, listens := t.listens, sched := { s.sched with notes := t.sched.notes }
      counters := t.counters, response := t.response, selected := true, frameReply := s.response } := by
  obtain ⟨hroutes, hframe⟩ := s.setRoutes_tellListens_eq m l rs
  have hdone : (((s.setRoutes m l).tellListens rs).done codeSetRoute []).routes = s.routes.set m l := hroutes
  refine ⟨hroutes, ?_, ?_⟩
  · rw [hdone]
    rfl
  rw [hdone]
  exact congrArg (fun u : State => u.done codeSetRoute []) hframe

/-! ### The tests of a new talk -/

theorem PortState.admitted_eq_false_iff {x : PortState} :
    x.admitted = false ↔ x ≠ .settling ∧ x ≠ .live ∧ x ≠ .retraining := by
  cases x <;> simp [PortState.admitted]

theorem portOf_eq_some_iff {m : Mix} {k : PortNo} : portOf m = some k ↔ m = returnMix k := by
  refine ⟨fun h => ?_, fun h => h ▸ portOf_returnMix k⟩
  unfold portOf at h
  split at h
  · cases h
    exact Fin.ext (show m.val = 16 + (m.val - 16) by omega)
  · cases h

/-- A mix is the return mix of a port outside the admitted states (R52 test 1). -/
theorem State.talkDown_iff {m : Mix} (s : State) : s.talkDown m = true ↔ ∃ k : PortNo, m = returnMix k ∧
    s.ports[k].state ≠ .settling ∧ s.ports[k].state ≠ .live ∧ s.ports[k].state ≠ .retraining := by
  simp only [← PortState.admitted_eq_false_iff, ← portOf_eq_some_iff]
  unfold State.talkDown
  cases portOf m with
  | none => simp
  | some k => simp

/-- A source is the field source of the mix's own port (R52 test 2). -/
theorem State.talkLoops_iff {m : Mix} {a : SourceAddr} (s : State) : s.talkLoops m a = true ↔
    ∃ k : PortNo, m = returnMix k ∧ s.input a = some (.field k) := by
  unfold State.talkLoops
  cases s.input a with
  | none => simp
  | some i =>
    have hloops : loops m i = true ↔ ∃ k, m = returnMix k ∧ i = .field k := by
      rw [← Bool.not_eq_false, loops_eq_false_iff]
      simp
    simp only [hloops, Option.some_inj]

end Sys2Proof.Machine

namespace Sys2Proof.Proofs

open Sys2Proof.Machine

/-- Settles O15: the tests are tried in their order, and none is met exactly as `State.spaceTest_eq_none_iff` says. -/
theorem spaceTestsInOrder : Obligations.SpaceTestsInOrder := by
  refine fun s m i freed => ⟨fun hsize => if_pos hsize, fun hsize hmix => ?_, fun hsize hmix r hr hfree hfull => ?_,
    fun hsize hmix hfree => (s.spaceTest_eq_none_iff m i freed).2 ⟨hsize, hmix, hfree⟩⟩
  · exact (if_neg (Nat.not_le.2 hsize)).trans (if_pos hmix)
  · subst hr
    exact ((if_neg (Nat.not_le.2 hsize)).trans (if_neg (Nat.not_le.2 hmix))).trans (if_pos ⟨hfree, hfull⟩)

/-- Settles O19: the level is the maximum and the class the minimum over the holders. -/
theorem recomputeFollowsHolders : Obligations.RecomputeFollowsHolders := by
  intro cfg hs r
  obtain ⟨-, hmax, hattained⟩ := foldl_max_spec (hs.map fun c => cfg.talkLevels[c]) 0
  have hfixed : 0 < r.fixedLevel → cfg.fixedClass ∈ hs ++ if 0 < r.fixedLevel then [cfg.fixedClass] else [] := fun h => by
    rw [if_pos h]
    exact List.mem_append_right _ (List.mem_singleton_self _)
  refine ⟨fun h => by subst h; rfl, fun c hc => hmax _ (List.mem_map_of_mem hc), fun hne => ?_, fun c hc =>
    minClass_le (List.mem_append_left _ hc), fun h => minClass_le (hfixed h), fun h => ?_, rfl, rfl, rfl, rfl⟩
  · rcases hattained with hzero | hmem
    · obtain ⟨c, hc⟩ := List.exists_mem_of_ne_nil hs hne
      have hle := hmax _ (List.mem_map_of_mem hc)
      exact ⟨c, hc, le_antisymm ((hzero.le.trans (Nat.zero_le _))) hle⟩
    · obtain ⟨c, hc, heq⟩ := List.mem_map.1 hmem
      exact ⟨c, hc, heq.symm⟩
  · have hne : hs ++ (if 0 < r.fixedLevel then [cfg.fixedClass] else []) ≠ [] := by
      rcases h with h | h
      · exact List.append_ne_nil_of_left_ne_nil h _
      · exact List.ne_nil_of_mem (hfixed h)
    rcases List.mem_append.1 (minClass_mem hne) with h | h
    · exact .inl h
    · have hcls : (r.recompute cfg hs).cls ∈ if 0 < r.fixedLevel then [cfg.fixedClass] else [] := h
      by_cases hlevel : 0 < r.fixedLevel
      · rw [if_pos hlevel] at hcls
        exact .inr ⟨hlevel, List.mem_singleton.1 hcls⟩
      · rw [if_neg hlevel] at hcls
        cases hcls

/-- Settles O14: the branches of `State.routeCommand`, each as an update of one mix's entries. -/
theorem setRouteChangesOneEntry : Obligations.SetRouteChangesOneEntry := by
  intro s args r hmode hlength hr
  rw [exec_setRoute hmode hlength hr]
  refine ⟨fun hloop => by rw [if_pos hloop]; rfl, fun hloop hroute hlevel => ?_, fun hloop hroute hlevel why hspace => ?_,
    fun hloop hput => ?_⟩
  · rw [hloop, if_neg Bool.false_ne_true, State.routeCommand, hroute, if_neg Bool.false_ne_true, if_pos hlevel]
    rfl
  · rw [hloop, if_neg Bool.false_ne_true, State.routeCommand, hroute, if_neg Bool.false_ne_true, if_neg hlevel.ne', hspace]
    rfl
  · rw [hloop, if_neg Bool.false_ne_true, State.routeCommand]
    have hremotes : ∀ (u : State) (i : Input), u.tellListens i.remotes = u.tellListens (match i with
        | .remote q => [q]
        | _ => []) := fun u i => by cases i <;> rfl
    cases hroute : hasRoute s.routes[r.mix] r.input with
    | false =>
      have hspace : 0 < r.level ∧ s.spaceTest r.mix r.input 0 = none := hput.resolve_left (by rw [hroute]; nofun)
      obtain ⟨hlevel, hspace⟩ := hspace
      rw [if_neg Bool.false_ne_true, if_neg hlevel.ne', hspace]
      obtain ⟨hroutes, htold, hframe⟩ := s.setRoutes_tell_done r.mix _ r.input.remotes
      exact ⟨_, rfl, rfl, fun _ => hroutes, nofun, nofun, htold.trans (congrArg (State.respond · _ _ _ _) (hremotes _ _)), hframe⟩
    | true =>
      rw [if_pos rfl]
      by_cases hlevel : r.level = 0
      · rw [if_pos hlevel]
        obtain ⟨hroutes, htold, hframe⟩ := s.setRoutes_tell_done r.mix _ r.input.remotes
        exact ⟨_, rfl, rfl, nofun, fun _ hpos => absurd hlevel hpos.ne', fun _ _ => hroutes,
          htold.trans (congrArg (State.respond · _ _ _ _) (hremotes _ _)), hframe⟩
      · rw [if_neg hlevel]
        obtain ⟨hroutes, htold, hframe⟩ := s.setRoutes_tell_done r.mix _ r.input.remotes
        refine ⟨_, rfl, rfl, nofun, fun _ _ => hroutes.trans (congrArg (fun l => s.routes.set r.mix l) ?_), fun _ hzero => absurd hzero hlevel,
          htold.trans (congrArg (State.respond · _ _ _ _) (hremotes _ _)), hframe⟩
        refine List.map_congr_left fun e _ => ?_
        by_cases hinput : e.input = r.input
        · dsimp only
          by_cases hsame : e.fixedLevel = r.level
          · rw [if_pos hinput, if_pos hsame, if_neg fun h => h.2 hsame]
          · rw [if_pos hinput, if_neg hsame, if_pos ⟨hinput, hsame⟩]
            rfl
        · rw [if_neg hinput, if_neg fun h => hinput h.1]

/-- Settles O31: each level of the precedence holds when its answers are there and none before it is. -/
theorem summaryPrecedence : Obligations.SummaryPrecedence := by
  intro rs heard ran
  have hanswer : ∀ r ∈ rs, (∃ x ∈ rs, x.answer = .granted) ∨ (∃ x ∈ rs, x.answer = .waiting) ∨
      (∃ x ∈ rs, x.answer = .preempted) ∨ (∃ x ∈ rs, x.answer = .refused) ∨ ∃ x ∈ rs, x.answer = .lapsed := fun r hr => by
    cases ha : r.answer
    · exact .inl ⟨r, hr, ha⟩
    · exact .inr (.inl ⟨r, hr, ha⟩)
    · exact .inr (.inr (.inl ⟨r, hr, ha⟩))
    · exact .inr (.inr (.inr (.inl ⟨r, hr, ha⟩)))
    · exact .inr (.inr (.inr (.inr ⟨r, hr, ha⟩)))
  rw [summaryOf_eq]
  dsimp only
  split
  case isTrue h =>
    have hne : rs ≠ [] := fun hnil => by simp [hnil] at h
    simp [h, hne]
  case isFalse hgranted =>
    split
    case isTrue h =>
      have hne : rs ≠ [] := fun hnil => by simp [hnil] at h
      rcases h with h | h <;> simp [hgranted, h, hne]
    case isFalse hwaiting =>
      rw [not_or] at hwaiting
      split
      case isTrue h =>
        have hne : rs ≠ [] := fun hnil => by simp [hnil] at h
        rcases h with h | h <;> simp [hgranted, hwaiting, h, hne]
      case isFalse hrefused =>
        rw [not_or] at hrefused
        have hnil : rs = [] := List.eq_nil_iff_forall_not_mem.2 fun r hr => by
          rcases hanswer r hr with h | h | h | h | h
          · exact hgranted h
          · exact hwaiting.1 h
          · exact hwaiting.2 h
          · exact hrefused.1 h
          · exact hrefused.2 h
        subst hnil
        cases heard <;> cases ran <;> simp

/-- Settles O21: `State.talkTest_eq` tries the tests in their order. -/
theorem talkTestsInOrder : Obligations.TalkTestsInOrder := by
  intro s m q
  have hdown : (∃ k : PortNo, m = returnMix k ∧ s.ports[k].state ≠ .settling ∧ s.ports[k].state ≠ .live ∧
      s.ports[k].state ≠ .retraining) ↔ s.talkDown m = true := s.talkDown_iff.symm
  have hloop : (∃ k : PortNo, m = returnMix k ∧ s.input q.source = some (.field k)) ↔ s.talkLoops m q.source = true :=
    s.talkLoops_iff.symm
  rw [s.talkTest_eq]
  dsimp only
  rw [hdown, hloop]
  refine ⟨fun h => if_pos h, fun h1 h2 => ?_, fun h1 h2 h3 => ?_, fun h1 h2 h3 h4 => ?_, fun h1 h2 h3 h4 => ?_⟩
  · rw [if_neg h1, if_pos h2]
  · rw [if_neg h1, if_neg h2, if_pos ⟨h3.1, by simp [h3.2]⟩]
  · rw [if_neg h1, if_neg h2, if_neg fun h => h3 ⟨h.1, by simpa using h.2⟩]
    exact if_pos h4
  · rw [if_neg h1, if_neg h2, if_neg fun h => h3 ⟨h.1, by simpa using h.2⟩]
    exact if_neg (Nat.not_le.2 h4)

end Sys2Proof.Proofs

/-!
SUPPORT. What the listen table is told of one source and of two, as equations: creation, release, count and class, with
the notes that go with them (R13 to R15, R122, R124, R125, R145, R146).
-/

namespace Sys2Proof.Machine

variable {s : State} {q : Remote} {k : Fin 32} {e : ListenEntry} {c : Cls}

/-! ### Places of the listen table -/

theorem State.findListen_eq_some (he : s.listens[k] = some e) (hq : e.source = q)
    (honly : ∀ (j : Fin 32) (x : ListenEntry), s.listens[j] = some x → x.source = q → j = k) : s.findListen q = some k := by
  cases hf : s.findListen q with
  | none => exact absurd hq (State.findListen_eq_none_iff.1 hf k e he)
  | some j =>
    obtain ⟨x, hx, hsource⟩ := State.findListen_some hf
    rw [honly j x hx hsource]

/-- The lowest place that is free (R145). -/
theorem State.freeListen_eq_some (hk : s.listens[k] = none) (hlow : ∀ j < k, s.listens[j] ≠ none) : s.freeListen = some k := by
  rw [State.freeListen, List.find?_eq_some_iff_getElem]
  refine ⟨by rw [hk]; rfl, k.val, by simp, by simp, fun j hj => ?_⟩
  rw [List.getElem_finRange, Bool.not_eq_true', Option.isNone_eq_false_iff, Option.isSome_iff_ne_none]
  exact hlow _ hj

theorem State.setListen_of_eq {o : Option ListenEntry} (h : s.listens[k] = o) : s.setListen k o = s := by
  subst h
  have hset : s.listens.set k s.listens[k] = s.listens := Vector.set_getElem_self _
  rw [State.setListen, hset]

theorem State.setListen_setListen (s : State) (k : Fin 32) (o o' : Option ListenEntry) :
    (s.setListen k o).setListen k o' = s.setListen k o' := by
  rw [State.setListen, State.setListen_listens, Vector.set_set]
  rfl

theorem State.handJoin_of_some (he : s.listens[k] = some e) : s.handJoin k =
    (s.setListen k (some { e with lastJoin := some s.clock.now })).hand ⟨e.source.station, .join e.source.index e.cls⟩ := by
  rw [State.handJoin, he]

/-- A JOIN for an entry just put in its place. -/
theorem State.handJoin_setListen (s : State) (k : Fin 32) (e : ListenEntry) : (s.setListen k (some e)).handJoin k =
    (s.setListen k (some { e with lastJoin := some s.clock.now })).hand ⟨e.source.station, .join e.source.index e.cls⟩ := by
  rw [State.handJoin_of_some (e := e) (by rw [State.setListen_listens, vector_set_getElem_self]), State.setListen_setListen]
  rfl

/-! ### The three passes over one source -/

theorem State.tellRelease_of_none (h : s.findListen q = none) : s.tellRelease q = s := by rw [State.tellRelease, h]

theorem State.tellRelease_of_ne_nil (h : entriesOf s.routes q ≠ []) : s.tellRelease q = s := by
  unfold State.tellRelease
  cases s.findListen q with
  | none => rfl
  | some k => exact if_neg h

theorem State.tellRelease_of_nil (hk : s.findListen q = some k) (he : s.listens[k] = some e) (hq : e.source = q)
    (h : entriesOf s.routes q = []) : s.tellRelease q = (s.setListen k none).hand ⟨q.station, .leave q.index⟩ := by
  subst hq
  rw [State.tellRelease, hk]
  exact (if_pos h).trans (by rw [State.releaseListen, he])

theorem State.tellCreate_of_some (h : s.findListen q = some k) : s.tellCreate q = s := by rw [State.tellCreate, h]

theorem State.tellCreate_of_nil (h : entriesOf s.routes q = []) : s.tellCreate q = s := by
  unfold State.tellCreate
  rw [h]
  cases s.findListen q <;> rfl

theorem State.tellCreate_of_ne_nil (hq : s.findListen q = none) (h : entriesOf s.routes q ≠ []) : s.tellCreate q =
    s.createListen q (entriesOf s.routes q).length (minClass ((entriesOf s.routes q).map Route.cls)) := by
  obtain ⟨x, l, hl⟩ := List.exists_cons_of_ne_nil h
  rw [State.tellCreate, hq, hl]

theorem State.tellUpdate_of_none (h : s.findListen q = none) : s.tellUpdate q = s := by rw [State.tellUpdate, h]

/-- An entry that has its source's count and class already is not changed. -/
theorem State.tellUpdate_of_agrees (hk : s.findListen q = some k) (he : s.listens[k] = some e)
    (hrefs : e.refCount = (entriesOf s.routes q).length) (hcls : minClass ((entriesOf s.routes q).map Route.cls) = e.cls) :
    s.tellUpdate q = s := by
  rw [State.tellUpdate, hk]
  dsimp only
  rw [State.updateListen, he, hcls]
  exact (if_pos (.inl rfl)).trans (State.setListen_of_eq (he.trans (by rw [← hrefs])))

/-! ### Telling of one source -/

theorem State.tellListens_singleton (s : State) (q : Remote) :
    s.tellListens [q] = ((s.tellRelease q).tellCreate q).tellUpdate q := rfl

/-- The least class of a source's route entries. -/
def State.LeastClass (s : State) (q : Remote) (c : Cls) : Prop :=
  (∃ x ∈ entriesOf s.routes q, x.cls = c) ∧ ∀ x ∈ entriesOf s.routes q, c ≤ x.cls

theorem State.LeastClass.ne_nil (h : s.LeastClass q c) : entriesOf s.routes q ≠ [] := by
  obtain ⟨⟨x, hx, -⟩, -⟩ := h
  exact List.ne_nil_of_mem hx

theorem State.LeastClass.minClass_eq (h : s.LeastClass q c) : minClass ((entriesOf s.routes q).map Route.cls) = c := by
  obtain ⟨⟨x, hx, hcls⟩, hleast⟩ := h
  refine Machine.minClass_eq (List.mem_map.2 ⟨x, hx, hcls⟩) fun y hy => ?_
  obtain ⟨z, hz, rfl⟩ := List.mem_map.1 hy
  exact hleast z hz

/-- The listen entry made for a source that has none (R145). -/
def State.madeListen (s : State) (q : Remote) (c : Cls) : ListenEntry :=
  { ListenEntry.created q (entriesOf s.routes q).length c (!s.isPresent q.station) with
    lastJoin := if s.isPresent q.station then some s.clock.now else none }

/-- The first route entry of a source creates its listen entry, with a JOIN unless the station is ABSENT (R13, R145). -/
theorem State.tellCreate_first (hq : s.findListen q = none) (hk : s.freeListen = some k) (hc : s.LeastClass q c) :
    s.tellCreate q =
      if s.isPresent q.station then
        (s.setListen k (some (s.madeListen q c))).hand ⟨q.station, .join q.index c⟩
      else s.setListen k (some (s.madeListen q c)) := by
  rw [State.tellCreate_of_ne_nil hq hc.ne_nil, hc.minClass_eq, State.createListen, hk]
  dsimp only
  cases hpresent : s.isPresent q.station with
  | true =>
    rw [if_neg (by decide), if_pos rfl, State.handJoin_setListen]
    unfold State.madeListen
    rw [hpresent]
    rfl
  | false =>
    rw [if_pos (by decide), if_neg (by decide)]
    unfold State.madeListen
    rw [hpresent]
    rfl

/-- The entry just created agrees with its source's routes. -/
theorem State.tellUpdate_made {t : State} (hroutes : t.routes = s.routes) (hfind : t.findListen q = some k)
    (hk : t.listens[k] = some (s.madeListen q c)) (hc : s.LeastClass q c) : t.tellUpdate q = t :=
  State.tellUpdate_of_agrees hfind hk (by rw [hroutes]; rfl) (by rw [hroutes, hc.minClass_eq]; rfl)

theorem State.tellCreate_first_listens (hq : s.findListen q = none) (hk : s.freeListen = some k) (hc : s.LeastClass q c) :
    (s.tellCreate q).listens = s.listens.set k (some (s.madeListen q c)) := by
  rw [State.tellCreate_first hq hk hc]
  split
  · exact State.hand_listens _ _
  · rfl

/-- In a table where no entry is of a source, a new one at some place is the only one. -/
theorem State.findListen_of_set {t : State} (hq : s.findListen q = none) (hsource : e.source = q)
    (hlistens : t.listens = s.listens.set k (some e)) : t.listens[k] = some e ∧ t.findListen q = some k := by
  have hk : t.listens[k] = some e := by rw [hlistens, vector_set_getElem_self]
  refine ⟨hk, State.findListen_eq_some hk hsource fun j x hx hxq => ?_⟩
  by_contra hne
  rw [hlistens, vector_set_getElem_ne _ _ (fun h => hne h.symm)] at hx
  exact State.findListen_eq_none_iff.1 hq j x hx hxq

theorem State.tellListens_first (hq : s.findListen q = none) (hk : s.freeListen = some k) (hc : s.LeastClass q c) :
    s.tellListens [q] = s.tellCreate q := by
  obtain ⟨hplace, hfind⟩ := State.findListen_of_set (e := s.madeListen q c) hq rfl (State.tellCreate_first_listens hq hk hc)
  rw [State.tellListens_singleton, State.tellRelease_of_none hq]
  exact State.tellUpdate_made (s.tellCreate_listenStep q).routes hfind hplace hc

/-- After a release the table holds no entry of the source. -/
theorem State.findListen_released {t : State}
    (honly : ∀ (j : Fin 32) (x : ListenEntry), s.listens[j] = some x → x.source = q → j = k)
    (hlistens : t.listens = s.listens.set k none) : t.findListen q = none := by
  refine State.findListen_eq_none_iff.2 fun j x hx hxq => ?_
  rw [hlistens, vector_set_getElem] at hx
  split at hx
  · cases hx
  · exact absurd (honly j x hx hxq).symm ‹_›

/-- Of two sources, the release of the one comes before the creation of the other (log entry 15). -/
theorem State.tellListens_pair {L : State} {p : Remote} {j : Fin 32} (hne : p ≠ q) (hL : s.tellRelease q = L)
    (hnil : entriesOf L.routes q = []) (hq : L.findListen q = none) (hp : L.findListen p = none)
    (hj : L.freeListen = some j) (hc : L.LeastClass p c) : s.tellListens [q, p] = L.tellCreate p := by
  have hlistens := State.tellCreate_first_listens hp hj hc
  obtain ⟨hplace, hfind⟩ := State.findListen_of_set (e := L.madeListen p c) hp rfl hlistens
  have hfindq : (L.tellCreate p).findListen q = none := State.findListen_eq_none_iff.2 fun i x hx => by
    rw [hlistens, vector_set_getElem] at hx
    split at hx
    · cases hx
      exact hne
    · exact State.findListen_eq_none_iff.1 hq i x hx
  show State.tellUpdate (State.tellUpdate (((s.tellRelease q).tellRelease p).tellCreate q |>.tellCreate p) q) p = _
  rw [hL, State.tellRelease_of_none hp, State.tellCreate_of_nil hnil, State.tellUpdate_of_none hfindq]
  exact State.tellUpdate_made (L.tellCreate_listenStep p).routes hfind hplace hc

end Sys2Proof.Machine

namespace Sys2Proof.Proofs

open Sys2Proof.Machine

/-- Settles O17: one source by its listen entry and its route entries, two sources with the release before the creation. -/
theorem firstReferenceCreatesListenEntry : Obligations.FirstReferenceCreatesListenEntry := by
  refine fun s q => ⟨rfl, fun hunheard => ?_, fun k e he hq honly => ?_⟩
  · have hnone : s.findListen q = none := State.findListen_eq_none_iff.2 hunheard
    refine ⟨fun hnil => ?_, fun k c hk hlow hc => ?_⟩
    · rw [State.tellListens_singleton, State.tellRelease_of_none hnone, State.tellCreate_of_nil hnil,
        State.tellUpdate_of_none hnone]
    · have hfree := State.freeListen_eq_some hk hlow
      have hleast : s.LeastClass q c := hc
      rw [State.tellListens_first hnone hfree hleast, State.tellCreate_first hnone hfree hleast]
      unfold State.madeListen
      refine ⟨fun hpresent => ?_, fun habsent => ?_⟩
      · rw [hpresent]
        rfl
      · rw [habsent]
        rfl
  · have hfind := State.findListen_eq_some he hq honly
    subst hq
    have hreleased : entriesOf s.routes e.source = [] → s.tellRelease e.source =
        (s.setListen k none).hand ⟨e.source.station, .leave e.source.index⟩ :=
      State.tellRelease_of_nil hfind he rfl
    have hgone : ∀ b, ((s.setListen k none).hand b).findListen e.source = none := fun b =>
      State.findListen_released honly (State.hand_listens _ b)
    have hroutes : ∀ b, ((s.setListen k none).hand b).routes = s.routes := fun b => ((s.setListen k none).hand_listenStep b).routes
    refine ⟨fun hnil => ?_, fun c hc => ?_, fun p c j hne hnil hunheard hc hj hlow hpresent => ?_⟩
    · rw [State.tellListens_singleton, hreleased hnil, State.tellCreate_of_nil (by rw [hroutes]; exact hnil),
        State.tellUpdate_of_none (hgone _)]
      rfl
    · have hleast : s.LeastClass e.source c := hc
      rw [State.tellListens_singleton, State.tellRelease_of_ne_nil hleast.ne_nil, State.tellCreate_of_some hfind,
        State.tellUpdate, hfind]
      dsimp only
      rw [hleast.minClass_eq, State.updateListen, he]
      refine ⟨fun hsame => if_pos hsame, fun hcls habsent => (if_neg ?_).trans ?_⟩
      · rw [habsent]
        exact fun h => h.elim hcls Bool.false_ne_true
      · exact s.handJoin_setListen k _
    · have hL := State.hand_listens (s.setListen k none) ⟨e.source.station, .leave e.source.index⟩
      have hstep := (s.setListen k none).hand_listenStep ⟨e.source.station, .leave e.source.index⟩
      have hleft := hreleased hnil
      generalize hdef : (s.setListen k none).hand ⟨e.source.station, .leave e.source.index⟩ = L at *
      have hrest : ∀ i : Fin 32, L.listens[i] = if k = i then none else s.listens[i] := fun i => by
        rw [hL]
        exact vector_set_getElem ..
      have hp : L.findListen p = none := State.findListen_eq_none_iff.2 fun i x hx => by
        rw [hrest] at hx
        split at hx
        · cases hx
        · exact hunheard i x hx
      have hfree : L.freeListen = some j := by
        refine State.freeListen_eq_some ?_ fun i hi => ?_
        · rw [hrest]
          split
          · rfl
          · exact hj.resolve_left fun h => ‹¬ k = j› h.symm
        · obtain ⟨hik, hi⟩ := hlow i hi
          rw [hrest, if_neg hik.symm]
          exact hi
      have hleast : L.LeastClass p c := by
        rw [State.LeastClass, hstep.routes]
        exact hc
      have hpresent : L.isPresent p.station = true := by
        rw [State.isPresent, hstep.roster]
        exact hpresent
      rw [State.tellListens_pair hne hleft (by rw [hstep.routes]; exact hnil)
        (State.findListen_released honly hL) hp hfree hleast, State.tellCreate_first hp hfree hleast, if_pos hpresent]
      unfold State.madeListen
      rw [hpresent, hstep.routes, hstep.clock, State.setListen, hL]
      subst hdef
      rfl

end Sys2Proof.Proofs

/-!
SUPPORT. Holds, releases and exchanges of a route entry as equations (R4, R10 to R13).
-/

namespace Sys2Proof.Machine

variable {s : State} {m : Mix} {a : SourceAddr} {c : Cls} {i : Input}

/-- A bad source: an index past the sources, or the station of all (R10). -/
theorem State.input_eq_none (s : State) (h : 23 < a.index.val ∨ a.station.val = 63) : s.input a = none := by
  unfold State.input toInput
  split
  · exact if_pos (h.resolve_left (by omega))
  · rfl

theorem dropHolder_eq (cfg : StationConfig) (left : List Cls) (rs : List Route) (i : Input) : dropHolder cfg left rs i =
    rs.filterMap fun e =>
      if e.input = i then
        if e.holders ≤ 1 ∧ e.fixedLevel = 0 then none
        else some (({ e with holders := e.holders - 1 } : Route).recompute cfg left)
      else some e := by
  refine List.filterMap_congr fun e _ => ?_
  simp only [show e.holders - 1 = 0 ↔ e.holders ≤ 1 by omega]

theorem State.hold_of_input (hi : s.input a = some i) : s.hold m a c = if s.canHold m i 0 then
    some ((s.setRoutes m (addHolder s.cfg (s.holderClasses s.talks[m].granted i ++ [c]) s.routes[m] i)).tellListens i.remotes)
    else none := by
  rw [State.hold, hi]

theorem State.hold_of_canHold (hi : s.input a = some i) (h : s.canHold m i 0 = true) : s.hold m a c =
    some ((s.setRoutes m (addHolder s.cfg (s.holderClasses s.talks[m].granted i ++ [c]) s.routes[m] i)).tellListens i.remotes) :=
  (State.hold_of_input hi).trans (if_pos h)

theorem State.hold_of_not_canHold (hi : s.input a = some i) (h : s.canHold m i 0 = false) : s.hold m a c = none :=
  (State.hold_of_input hi).trans (if_neg (by rw [h]; exact Bool.false_ne_true))

theorem State.release_of_input (hi : s.input a = some i) : s.release m a =
    (s.setRoutes m (dropHolder s.cfg (s.holderClasses s.talks[m].granted i) s.routes[m] i)).tellListens i.remotes := by
  rw [State.release, hi]

theorem State.canHold_eq_false_iff {freed : Nat} : s.canHold m i freed = false ↔
    loops m i = true ∨ (hasRoute s.routes[m] i = false ∧ s.spaceTest m i freed ≠ none) := by
  rw [← Bool.not_eq_true, s.canHold_iff, not_and_or, not_or, Bool.not_eq_false, Bool.not_eq_true]

theorem State.canHold_eq_true {freed : Nat} (hl : loops m i = false)
    (h : hasRoute s.routes[m] i = true ∨ s.spaceTest m i freed = none) : s.canHold m i freed = true := by
  rw [← Bool.not_eq_false, State.canHold_eq_false_iff, hl]
  rintro (hl | ⟨hr, hs⟩)
  · cases hl
  · exact h.elim (fun h => by rw [h] at hr; cases hr) hs

theorem State.freedListens_eq_countP (s : State) (p : Fin 32 → Bool)
    (hp : ∀ k, p k = true ↔ ∃ e, s.listens[k] = some e ∧ entriesOf s.routes e.source = []) :
    (List.finRange 32).countP p = s.freedListens := by
  refine List.countP_congr fun k _ => (hp k).trans ?_
  cases s.listens[k] with
  | none => simp
  | some e => simp

section
variable {v : InTalk} {rest : List InTalk} {vi : Input}

theorem State.exchange_of_same (hv : s.input v.source = some i) (hi : s.input a = some i) : s.exchange m v rest a c =
    some ((s.setRoutes m (changeRoute s.routes[m] i
      (Route.recompute s.cfg (s.holderClasses rest i ++ [c])))).tellListens i.remotes) := by
  rw [State.exchange, hv, hi]
  exact if_pos rfl

/-- The entries of a mix without the victim's holder. -/
def State.without (s : State) (m : Mix) (rest : List InTalk) (vi : Input) : List Route :=
  dropHolder s.cfg (s.holderClasses rest vi) s.routes[m] vi

theorem State.exchange_of_ne (hv : s.input v.source = some vi) (hi : s.input a = some i) (hne : vi ≠ i) :
    let left := s.without m rest vi
    let freed := s.setRoutes m left
    s.exchange m v rest a c = if freed.canHold m i freed.freedListens then
      some ((s.setRoutes m (addHolder s.cfg (s.holderClasses rest i ++ [c]) left i)).tellListens (vi.remotes ++ i.remotes))
    else none := by
  have hplace : (s.setRoutes m (s.without m rest vi)).routes[m] = s.without m rest vi := by
    rw [State.setRoutes_routes, vector_set_getElem_self]
  have hset := s.setRoutes_setRoutes m (s.without m rest vi)
    (addHolder s.cfg (s.holderClasses rest i ++ [c]) (s.without m rest vi) i)
  rw [State.exchange, hv, hi]
  dsimp only
  rw [if_neg hne]
  show (if (s.setRoutes m (s.without m rest vi)).canHold m i (s.setRoutes m (s.without m rest vi)).freedListens then
    some (((s.setRoutes m (s.without m rest vi)).setRoutes m (addHolder s.cfg (s.holderClasses rest i ++ [c])
      (s.setRoutes m (s.without m rest vi)).routes[m] i)).tellListens (vi.remotes ++ i.remotes)) else none) = _
  rw [hplace, hset]

theorem State.exchange_of_input_none (h : s.input a = none) : s.exchange m v rest a c = none := by
  unfold State.exchange
  rw [h]
  cases s.input v.source <;> rfl

end

end Sys2Proof.Machine

namespace Sys2Proof.Proofs

open Sys2Proof.Machine

/-- Settles O20: a hold adds one holder, a release takes one off, an exchange does both, each where its tests let it. -/
theorem holdTakesOneHolder : Obligations.HoldTakesOneHolder := by
  intro s m a c
  dsimp only
  have htold : ∀ (l : List Route) (qs : List Remote), (s.setRoutes m l).tellListens qs = { s with
      routes := s.routes.set m l, listens := ((s.setRoutes m l).tellListens qs).listens
      sched := { s.sched with notes := ((s.setRoutes m l).tellListens qs).sched.notes }
      counters := ((s.setRoutes m l).tellListens qs).counters } := fun l qs => (s.setRoutes_tellListens_eq m l qs).2
  refine ⟨⟨fun hbad => ?_, fun i hi hloop => ?_, fun i hi hroute hspace => ?_, fun i hi hloop hroom => ?_⟩,
    ⟨fun hi => ?_, fun i hi => ?_⟩, fun v rest hbad => ?_, fun v rest vi i hv hi => ⟨fun hsame => ?_, fun hne => ?_⟩⟩
  · rw [State.hold, s.input_eq_none hbad]
  · exact State.hold_of_not_canHold hi (State.canHold_eq_false_iff.2 (.inl hloop))
  · exact State.hold_of_not_canHold hi (State.canHold_eq_false_iff.2 (.inr ⟨hroute, hspace⟩))
  · exact ⟨_, State.hold_of_canHold hi (State.canHold_eq_true hloop hroom),
      congrArg (State.tellListens _) (by cases i <;> rfl), htold _ _⟩
  · rw [State.release, hi]
  · rw [← dropHolder_eq, State.release_of_input hi]
    exact ⟨congrArg (State.tellListens _) (by cases i <;> rfl), htold _ _⟩
  · exact State.exchange_of_input_none (s.input_eq_none hbad)
  · subst hsame
    exact ⟨_, State.exchange_of_same hv hi, congrArg (State.tellListens _) (by cases vi <;> rfl), htold _ _⟩
  · rw [← dropHolder_eq, State.exchange_of_ne hv hi hne]
    generalize hfree : List.countP _ (List.finRange 32) = free
    have heq : (s.setRoutes m (s.without m rest vi)).freedListens = free := by
      refine (State.freedListens_eq_countP _ _ fun k => ?_).symm.trans hfree
      rw [State.setRoutes_listens]
      cases s.listens[k] with
      | none => exact ⟨nofun, fun ⟨_, hx, _⟩ => nomatch hx⟩
      | some e => exact ⟨fun h => ⟨e, rfl, List.isEmpty_iff.1 h⟩, fun ⟨x, hx, hnil⟩ => by cases hx; exact List.isEmpty_iff.2 hnil⟩
    have hplace : (s.setRoutes m (s.without m rest vi)).routes[m] = s.without m rest vi := by
      rw [State.setRoutes_routes, vector_set_getElem_self]
    rw [heq]
    refine ⟨fun hno => if_neg (Bool.eq_false_iff.1 (State.canHold_eq_false_iff.2 ?_)), fun hloop hroom =>
      ⟨_, if_pos (State.canHold_eq_true hloop ?_), congrArg (State.tellListens _) (by cases vi <;> cases i <;> rfl),
        htold _ _⟩⟩
    · rw [hplace]
      exact hno
    · rw [hplace]
      exact hroom

end Sys2Proof.Proofs

/-!
SUPPORT. Commands of a copy: when a copy is taken, and that a good one reaches its owner in the order of completion (R90,
R93, R94, R99, R100; log entries 9 and 25).
-/

namespace Sys2Proof.Machine

variable {s : State} {x : Instr} {good cond : Bool} {owner : State → State} {o target : Station}

/-- A command of a copy: taken under its own condition while copies are taken, and handed on with its check. -/
def State.Copied (s : State) (x : Instr) (good cond : Bool) (owner : State → State) : Prop :=
  exec x s = .next (if s.takesCopies && cond then s.handOn x good owner else s)

theorem State.Copied.of_not_taken (h : s.Copied x good cond owner) (hno : s.takesCopies = false ∨ cond = false) :
    exec x s = .next s := by
  refine h.trans (congrArg _ (if_neg ?_))
  rcases hno with hno | hno <;> simp [hno]

theorem State.Copied.of_taken (h : s.Copied x good cond owner) (htakes : s.takesCopies = true) (hcond : cond = true) :
    exec x s = .next (s.handOn x good owner) := by
  refine h.trans (congrArg _ (if_pos ?_))
  rw [htakes, hcond]
  rfl

/-- A copy whose check fails (R94). -/
theorem State.Copied.of_bad (h : s.Copied x false cond owner) (htakes : s.takesCopies = true) (hcond : cond = true) :
    exec x s = .next { s with counters := { s.counters with check := satInc s.counters.check } } :=
  h.of_taken htakes hcond

/-- A good copy while none waits. -/
theorem State.Copied.of_nil (h : s.Copied x true cond owner) (htakes : s.takesCopies = true) (hcond : cond = true)
    (hhand : s.ring.handOff = []) : exec x s = .next (owner s) := by
  refine (h.of_taken htakes hcond).trans (congrArg _ ?_)
  unfold State.handOn
  rw [hhand]
  rfl

/-- A good copy that is the oldest that waits. -/
theorem State.Copied.of_cons (h : s.Copied x true cond owner) (htakes : s.takesCopies = true) (hcond : cond = true)
    {rest : List Instr} (hhand : s.ring.handOff = x :: rest) :
    exec x s = .next (owner { s with ring := { s.ring with handOff := rest } }) := by
  refine (h.of_taken htakes hcond).trans (congrArg _ ?_)
  unfold State.handOn
  rw [hhand]
  exact (if_pos rfl).trans (if_pos rfl)

/-- A good copy behind another that waits. -/
theorem State.Copied.of_behind (h : s.Copied x true cond owner) (htakes : s.takesCopies = true) (hcond : cond = true)
    {y : Instr} {rest : List Instr} (hhand : s.ring.handOff = y :: rest) (hne : y ≠ x) : exec x s = .next s := by
  refine (h.of_taken htakes hcond).trans (congrArg _ ?_)
  unfold State.handOn
  rw [hhand]
  exact if_neg hne

/-- The three cases of a good copy that is taken. -/
theorem State.Copied.inOrder (h : s.Copied x true cond owner) (htakes : s.takesCopies = true) (hcond : cond = true) :
    (s.ring.handOff = [] → exec x s = .next (owner s)) ∧
    (∀ rest, s.ring.handOff = x :: rest → exec x s = .next (owner { s with ring := { s.ring with handOff := rest } })) ∧
    (∀ y rest, s.ring.handOff = y :: rest → y ≠ x → exec x s = .next s) :=
  ⟨h.of_nil htakes hcond, fun _ => h.of_cons htakes hcond, fun _ _ => h.of_behind htakes hcond⟩

/-! ### The condition of a copy -/

theorem State.takesCopies_of (hmode : s.mode ≠ .unconfigured) (hring : s.ring.status = .up) : s.takesCopies = true := by
  rw [State.takesCopies, State.configured_of_mode_ne hmode, hring]
  rfl

theorem State.takesCopies_eq_false (h : s.mode = .unconfigured ∨ s.ring.status = .down) : s.takesCopies = false := by
  rcases h with h | h
  · rw [State.takesCopies, State.configured_of_mode_eq h]
    rfl
  · rw [State.takesCopies, h]
    exact Bool.and_false _

theorem State.forwards_eq_true (h : s.cfg.number ≠ some o) : s.forwards o = true := by
  simpa [State.forwards] using fun heq => h heq.symm

theorem State.forwards_eq_false (h : s.cfg.number = some o) : s.forwards o = false := by
  simp [State.forwards, h]

theorem State.selects_eq_true (ho : s.cfg.number ≠ some o) (ht : target.val = 63 ∨ s.cfg.number = some target) :
    s.selects o target = true := by
  rw [State.selects, State.forwards_eq_true ho, Bool.true_and, Bool.or_eq_true, beq_iff_eq, beq_iff_eq]
  exact ht.imp id Eq.symm

theorem State.selects_eq_false (h : s.cfg.number = some o ∨ (target.val ≠ 63 ∧ s.cfg.number ≠ some target)) :
    s.selects o target = false := by
  rcases h with h | ⟨h63, hown⟩
  · rw [State.selects, State.forwards_eq_false h]
    rfl
  · have hne : some target ≠ s.cfg.number := fun heq => hown heq.symm
    simp [State.selects, h63, hne]

/-! ### The commands of a copy -/

section
variable (s) (good : Bool) (o target : Station)

theorem State.burst_copied (i : Fin 32) (c : Cls) (q : Seq) (b : Block) :
    s.Copied (.burst good o i c q b) good (s.forwards o) fun u => u.takeBurst o i q b := rfl

theorem State.presence_copied (hop : Fin 64) (q : Seq) (l d : BitVec 8) :
    s.Copied (.presence good o target hop q l d) good (s.selects o target && decide (hop.val < 62))
      fun u => u.takePresence o hop q l d :=
  congrArg (fun b : Bool => Host.Outcome.next (if b then _ else s)) (Bool.and_assoc ..)

theorem State.presenceCheckCopy_copied (q : Seq) : s.Copied (.presenceCheckCopy good q) good true
    fun u => if u.cfg.startStamp = some q then u else u.duplicate q := by
  have howner : (fun u : State => if some q = u.cfg.startStamp then u else u.duplicate q) =
      fun u => if u.cfg.startStamp = some q then u else u.duplicate q :=
    funext fun u => by
      by_cases h : u.cfg.startStamp = some q
      · rw [if_pos h, if_pos h.symm]
      · rw [if_neg h, if_neg fun heq => h heq.symm]
  rw [State.Copied, Bool.and_true, ← howner]
  rfl

theorem State.join_copied (i : Fin 32) (c : Cls) : s.Copied (.join good o target i c) good (s.selects o target)
    fun u => u.dispatchOwn target fun u => u.takeJoin o i c := rfl

theorem State.leave_copied (i : Fin 32) : s.Copied (.leave good o target i) good (s.selects o target)
    fun u => u.dispatchOwn target fun u => u.takeLeave o i := rfl

theorem State.talk_copied (n : TalkNo) (src : SourceAddr) (c : Cls) (f : Bool) (kind : TargetKind) (v : Fin 32) :
    s.Copied (.talk good o target n src c f kind v) good (s.selects o target)
      fun u => u.takeTalk (target.val == 63) ⟨o, n, src, c, f⟩ kind v := rfl

theorem State.talkEnd_copied (n : TalkNo) : s.Copied (.talkEnd good o target n) good (s.selects o target)
    fun u => u.takeTalkEnd o n := rfl

theorem State.talkState_copied (n : TalkNo) (m : Fin 32) (st : Fin 8) (re : Fin 16) :
    s.Copied (.talkState good o target n m st re) good (s.selects o target)
      fun u => u.dispatchOwn target fun u => u.takeTalkState o n m st re := rfl

/-- The six commands of a note's copy, each with a condition that asks for a selected note. -/
theorem State.notes_copied (i n m v : Fin 32) (c : Cls) (q : Seq) (hop : Fin 64) (l d : BitVec 8) (src : SourceAddr)
    (f : Bool) (kind : TargetKind) (st : Fin 8) (re : Fin 16) :
    ∀ x ∈ [Instr.presence good o target hop q l d, .join good o target i c, .leave good o target i,
      .talk good o target n src c f kind v, .talkEnd good o target n, .talkState good o target n m st re],
    ∃ cond owner, s.Copied x good cond owner ∧ (s.selects o target = false → cond = false) ∧
      (s.selects o target = true → hop.val < 62 → cond = true) := by
  simp only [List.forall_mem_cons]
  refine ⟨⟨_, _, s.presence_copied good o target hop q l d, fun h => by simp [h], fun h hhop => by simp [h, hhop]⟩,
    ⟨_, _, s.join_copied good o target i c, id, fun h _ => h⟩, ⟨_, _, s.leave_copied good o target i, id, fun h _ => h⟩,
    ⟨_, _, s.talk_copied good o target n src c f kind v, id, fun h _ => h⟩,
    ⟨_, _, s.talkEnd_copied good o target n, id, fun h _ => h⟩,
    ⟨_, _, s.talkState_copied good o target n m st re, id, fun h _ => h⟩, nofun⟩

end

theorem State.dispatchOwn_of_all (h : target.val = 63) : s.dispatchOwn target owner = s.count Counters.incRingIgnored := if_pos h

theorem State.dispatchOwn_of_own (h : target.val ≠ 63) : s.dispatchOwn target owner = owner s := if_neg h

end Sys2Proof.Machine

namespace Sys2Proof.Proofs

open Sys2Proof.Machine

/-- Settles O53: each command of a copy by its condition, its check and the copies that wait. -/
theorem copiesThatReachNoOwner : Obligations.CopiesThatReachNoOwner := by
  intro s o target i n m v c q b hop l d src f kind st re good
  refine ⟨fun hno => List.forall_mem_append.2 ⟨fun x hx => ?_, ?_⟩, fun hown => List.forall_mem_append.2 ⟨fun x hx => ?_, ?_⟩,
    fun h63 hother x hx => ?_, fun hhop => ?_, fun hmode hring hown htarget hhop => ⟨List.forall_mem_append.2 ⟨fun x hx => ?_, ?_⟩,
    fun h63 hhand => ?_⟩, fun hmode hring => ?_⟩
  · obtain ⟨cond, owner, hcopied, -, -⟩ := s.notes_copied good o target i n m v c q hop l d src f kind st re x hx
    exact hcopied.of_not_taken (.inl (State.takesCopies_eq_false hno))
  · have htakes := State.takesCopies_eq_false hno
    exact List.forall_mem_cons.2 ⟨(s.burst_copied good o i c q b).of_not_taken (.inl htakes),
      List.forall_mem_singleton.2 ((s.presenceCheckCopy_copied good q).of_not_taken (.inl htakes))⟩
  · obtain ⟨cond, owner, hcopied, hcond, -⟩ := s.notes_copied good o target i n m v c q hop l d src f kind st re x hx
    exact hcopied.of_not_taken (.inr (hcond (State.selects_eq_false (.inl hown))))
  · exact List.forall_mem_singleton.2 ((s.burst_copied good o i c q b).of_not_taken (.inr (State.forwards_eq_false hown)))
  · obtain ⟨cond, owner, hcopied, hcond, -⟩ := s.notes_copied good o target i n m v c q hop l d src f kind st re x hx
    exact hcopied.of_not_taken (.inr (hcond (State.selects_eq_false (.inr ⟨h63, hother⟩))))
  · refine (s.presence_copied good o target hop q l d).of_not_taken (.inr ?_)
    rw [decide_eq_false (Nat.not_lt.2 hhop), Bool.and_false]
  · obtain ⟨cond, owner, hcopied, -, hcond⟩ := s.notes_copied false o target i n m v c q hop l d src f kind st re x hx
    exact hcopied.of_bad (State.takesCopies_of hmode hring) (hcond (State.selects_eq_true hown htarget) hhop)
  · have htakes := State.takesCopies_of hmode hring
    exact List.forall_mem_cons.2 ⟨(s.burst_copied false o i c q b).of_bad htakes (State.forwards_eq_true hown),
      List.forall_mem_singleton.2 ((s.presenceCheckCopy_copied false q).of_bad htakes rfl)⟩
  · have htakes := State.takesCopies_of hmode hring
    have hselects := State.selects_eq_true hown htarget
    have hignored : ∀ owner, s.dispatchOwn target owner = s.count Counters.incRingIgnored := fun owner =>
      State.dispatchOwn_of_all h63
    refine List.forall_mem_cons.2 ⟨?_, List.forall_mem_cons.2 ⟨?_, List.forall_mem_singleton.2 ?_⟩⟩
    · exact ((s.join_copied true o target i c).of_nil htakes hselects hhand).trans (congrArg _ (hignored _))
    · exact ((s.leave_copied true o target i).of_nil htakes hselects hhand).trans (congrArg _ (hignored _))
    · exact ((s.talkState_copied true o target n m st re).of_nil htakes hselects hhand).trans (congrArg _ (hignored _))
  · have htakes := State.takesCopies_of hmode hring
    refine ⟨(s.presenceCheckCopy_copied true q).inOrder htakes rfl, fun hown =>
      ⟨(s.burst_copied true o i c q b).inOrder htakes (State.forwards_eq_true hown), fun htarget => ?_⟩⟩
    have hselects := State.selects_eq_true hown htarget
    refine ⟨fun hhop => (s.presence_copied true o target hop q l d).inOrder htakes (by rw [hselects, decide_eq_true hhop]; rfl),
      (s.join_copied true o target i c).inOrder htakes hselects, (s.leave_copied true o target i).inOrder htakes hselects,
      (s.talk_copied true o target n src c f kind v).inOrder htakes hselects,
      (s.talkEnd_copied true o target n).inOrder htakes hselects,
      (s.talkState_copied true o target n m st re).inOrder htakes hselects⟩

end Sys2Proof.Proofs

/-!
SUPPORT. The arrival of a burst, the subscriptions, a reply and the targets of a TALK, as equations (R50, R63, R77, R78,
R117 to R119, R123, R148 to R150).
-/

namespace Sys2Proof.Machine

variable {s : State}

/-! ### Times in reference counts -/

theorem ms_1 : Config.ms 1 = 24576 := rfl

theorem ms_10 : Config.ms 10 = 245760 := rfl

theorem ms_20 : Config.ms 20 = 491520 := rfl

theorem ms_50 : Config.ms 50 = 1228800 := rfl

theorem ms_100 : Config.ms 100 = 2457600 := rfl

theorem ms_150 : Config.ms 150 = 3686400 := rfl

theorem ms_200 : Config.ms 200 = 4915200 := rfl

theorem ms_350 : Config.ms 350 = 8601600 := rfl

theorem ms_600 : Config.ms 600 = 14745600 := rfl

theorem ms_2000 : Config.ms 2000 = 49152000 := rfl

/-! ### The arrival of a burst -/

namespace ListenEntry

theorem endPriming_eq (e : ListenEntry) (target : Nat) : e.endPriming target =
    { e with state := if e.state = .priming ∧ target ≤ e.buffer.length then .playing else e.state } := by
  unfold endPriming
  split <;> rfl

/-- An entry primed by a burst, with its priming ended where one block is enough. -/
theorem prime_endPriming (e : ListenEntry) (q : Seq) (b : Block) (target : Nat) : (e.prime q b).endPriming target =
    { e with play := some q, buffer := [⟨q, b⟩], miss := 0, state := if target ≤ 1 then .playing else .priming } := by
  rw [endPriming_eq]
  simp only [prime, true_and, List.length_singleton]

theorem arrive_of_empty {e : ListenEntry} (h : e.state = .empty) (target : Nat) (q : Seq) (b : Block) :
    e.arrive target q b = ((e.prime q b).endPriming target, .stored) := by
  rw [arrive, h]

theorem arrive_of_play {e : ListenEntry} {p : Seq} (h : e.state ≠ .empty) (hp : e.play = some p) (target : Nat) (q : Seq)
    (b : Block) : e.arrive target q b =
      if serialDiff q p < 0 then ({ e with lateRx := satInc e.lateRx }, .late)
      else if 8 ≤ serialDiff q p then
        ((({ e with resync := satInc e.resync } : ListenEntry).prime q b).endPriming target, .resync)
      else if e.holds q then ({ e with dup := satInc e.dup }, .dup)
      else (({ e with buffer := e.buffer ++ [⟨q, b⟩] } : ListenEntry).endPriming target, .stored) := by
  rw [arrive, hp]
  cases hs : e.state with
  | empty => exact absurd hs h
  | priming => rfl
  | playing => rfl

end ListenEntry

theorem State.takeBurst_of_none {o : Station} {i : Fin 32} (q : Seq) (b : Block)
    (h : ∀ hi : i.val < 24, s.findListen ⟨o, ⟨i.val, hi⟩⟩ = none) : s.takeBurst o i q b = s := by
  unfold State.takeBurst
  split
  · rw [h ‹_›]
  · rfl

theorem State.takeBurst_of_some {k : Fin 32} {e : ListenEntry} {i : Fin 32} (q : Seq) (b : Block)
    (hi : e.source.index.val = i.val) (hfind : s.findListen e.source = some k) (he : s.listens[k] = some e) :
    s.takeBurst e.source.station i q b = (s.setListen k (some (e.arrive s.cfg.jitterTarget q b).1)).count
      (e.arrive s.cfg.jitterTarget q b).2.count := by
  have hlt : i.val < 24 := hi ▸ e.source.index.isLt
  have hsource : (⟨e.source.station, ⟨i.val, hlt⟩⟩ : Remote) = e.source := by
    cases hs : e.source with
    | mk st n =>
      rw [hs] at hi
      exact congrArg _ (Fin.ext hi.symm)
  unfold State.takeBurst
  rw [dif_pos hlt, hsource, hfind]
  dsimp only
  rw [he]

/-! ### Replies -/

theorem State.putSummed_eq (s : State) (n : TalkNo) (before : Summary) (x : OutTalk) : s.putSummed n before x = { s with
    outTalks := s.outTalks.set n (some x.summed)
    events := if x.summed.summary = before then s.events
      else s.events.push (.tally n x.origin x.summed.summary false) } := by
  unfold State.putSummed
  dsimp only
  split <;> rfl

theorem OutTalk.addReply_eq (x : OutTalk) (r : Reply) :
    let found := x.replies.any fun y => y.station == r.station && y.mix == r.mix
    x.addReply r = { x with
      replies := if found then x.replies.map fun y => if y.station = r.station ∧ y.mix = r.mix then r else y
        else if x.replies.length < 8 then x.replies ++ [r] else x.replies
      overflow := if found ∨ x.replies.length < 8 then x.overflow else satInc x.overflow } := by
  unfold OutTalk.addReply
  dsimp only
  split
  case isTrue h => rw [if_pos (.inl h)]
  case isFalse h =>
    by_cases hroom : x.replies.length < 8
    · rw [if_pos (show x.replies.length < Config.maxReplies from hroom), if_pos hroom, if_pos (Or.inr hroom)]
    · rw [if_neg (show ¬ x.replies.length < Config.maxReplies from hroom), if_neg hroom, if_neg (not_or.2 ⟨h, hroom⟩)]

theorem OutTalk.accepts_iff {x : OutTalk} {o : Station} {m : Fin 32} : x.accepts o m = true ↔
    (x.target.station.val = 63 ∨ x.target.station = o) ∧ (x.target.kind = .group ∨ x.target.value = m) := by
  simp [OutTalk.accepts]

theorem State.takeReply_of_accepts {n : TalkNo} {r : Reply} {x : OutTalk} (hx : s.outTalks[n] = some x)
    (h : x.accepts r.station r.mix = true) : s.takeReply n r = s.putSummed n x.summary { x.addReply r with heard := true } := by
  rw [State.takeReply, hx]
  exact if_pos h

theorem State.takeReply_of_not_accepts {n : TalkNo} {r : Reply} {x : OutTalk} (hx : s.outTalks[n] = some x)
    (h : ¬ x.accepts r.station r.mix = true) : s.takeReply n r = s.count Counters.incTalkerIgnored := by
  rw [State.takeReply, hx]
  exact if_neg h

theorem TalkAnswer.ofCode_eq_none {st : Fin 8} (h : 5 ≤ st.val) : TalkAnswer.ofCode st = none := by
  revert h
  revert st
  decide

/-- The last branch of the table is the reason NONE: its `none` is read as the constructor of the type. -/
theorem Reason.ofCode_8 : Reason.ofCode 8 = some Reason.none := rfl

/-- A station of the number 0 with one outgoing talk, toward the mix 0 of the station 1. -/
def State.oneTalkOut : State :=
  { State.reset with
    mode := .active
    cfg := { StationConfig.reset with number := some 0 }
    ring := { State.reset.ring with status := .up }
    outTalks := (Vector.replicate 32 none).set 0 (some
      { source := 0, target := ⟨1, .mix, 0⟩, cls := 0, intr := false, origin := .panel, replies := [], overflow := 0
        summary := .pending, created := 0, heard := false, refreshDue := 0, answerTimerRan := false }) }

/-- Its talk takes a TALK-STATE of the reason code 8, which no table names, as a reply. -/
theorem State.oneTalkOut_takes : State.oneTalkOut.takeTalkState 1 0 0 0 8 =
    State.oneTalkOut.takeReply 0 ⟨1, 0, .granted, .none⟩ := by
  rw [State.takeTalkState, Reason.ofCode_8]
  rfl

/-! ### The refresh of a JOIN and the expiry of a subscriber -/

theorem State.setSend_reach (t : Nat) (n : SourceNo) (l : List Subscriber) :
    (s.reach t).setSend n l = { s.reach t with sends := s.sends.set n l } := rfl

/-- The subscriber that expires leaves the list of its source at the due time. -/
theorem State.execSubscriberExpiry_of_find {n : SourceNo} {o : Station} {x : Subscriber}
    (hfind : s.sends[n].find? (fun x => x.station == o) = some x) : execSubscriberExpiry n o s =
      .next ((s.reach (x.lastJoin + Config.ms 600)).setSend n (dropSubscriber s.sends[n] o)) := by
  rw [execSubscriberExpiry, hfind]

/-- The entry whose JOIN is refreshed gets a new one at the due time. -/
theorem State.execJoinRefreshExpiry_of_due {k : Fin 32} {e : ListenEntry} {t : Nat} (hk : s.listens[k] = some e)
    (habsent : e.absent = false) (hjoin : e.lastJoin = some t) : execJoinRefreshExpiry k s =
      .next ((s.reach (t + Config.ms 200)).handJoin k) := by
  rw [execJoinRefreshExpiry, hk]
  dsimp only
  rw [habsent, hjoin]

theorem State.handJoin_reach {k : Fin 32} {e : ListenEntry} (hk : s.listens[k] = some e) (t : Nat) :
    (s.reach t).handJoin k = ({ s.reach t with
        listens := s.listens.set k (some { e with lastJoin := some (s.reach t).clock.now }) } : State).hand
      ⟨e.source.station, .join e.source.index e.cls⟩ := State.handJoin_of_some (s := s.reach t) hk

/-! ### The targets of a TALK -/

theorem State.takeTalk_mix (s : State) (q : TalkRequest) (m : Mix) :
    s.takeTalk false q .mix (mixField m) = State.takeTalkMix q s m := dif_pos m.isLt

theorem State.takeTalk_group (s : State) (toAll : Bool) (q : TalkRequest) {v : Fin 32} (h : 1 ≤ v.val ∧ v.val ≤ 7) :
    s.takeTalk toAll q .group v = (s.groupMixes v).foldl (State.takeTalkMix q) s := if_pos h

theorem State.takeTalk_bad_group (s : State) (toAll : Bool) (q : TalkRequest) {v : Fin 32} (h : v.val = 0 ∨ 7 < v.val) :
    s.takeTalk toAll q .group v = if toAll then s.count Counters.incArbiterIgnored
      else s.answer q.talker q.number v .refused .badTarget := if_neg (by omega)

theorem State.takeTalk_bad_mix (s : State) (q : TalkRequest) {v : Fin 32} (h : 23 < v.val) :
    s.takeTalk false q .mix v = s.answer q.talker q.number v .refused .badTarget := dif_neg (by omega)

end Sys2Proof.Machine

namespace Sys2Proof.Proofs

open Sys2Proof.Machine

/-- Settles O54: the entry of the burst's source by its state and the serial difference. -/
theorem burstReachesListenEntry : Obligations.BurstReachesListenEntry := by
  intro s o own i c q b hmode hring hown ho hhand
  have harrives := (s.burst_copied true o i c q b).of_nil (State.takesCopies_of hmode hring)
    (State.forwards_eq_true (by rw [hown]; exact fun h => ho (Option.some.inj h).symm)) hhand
  dsimp only
  rw [harrives]
  refine ⟨fun hnone => congrArg _ (State.takeBurst_of_none q b fun hi => State.findListen_eq_none_iff.2 fun k e he hsource =>
    hnone k e he (by rw [hsource]) (by rw [hsource])), fun k e he hst hi hfind => ?_⟩
  subst hst
  rw [State.takeBurst_of_some q b hi hfind he]
  refine ⟨fun hempty => ?_, fun p hne hp => ⟨fun hlate => ?_, fun hresync => ?_, fun hlow hhigh hdup => ?_,
    fun hlow hhigh hnew => ?_⟩⟩
  · rw [ListenEntry.arrive_of_empty hempty, ListenEntry.prime_endPriming]
    rfl
  · rw [ListenEntry.arrive_of_play hne hp, if_pos hlate]
    rfl
  · rw [ListenEntry.arrive_of_play hne hp, if_neg (by omega), if_pos hresync, ListenEntry.prime_endPriming]
    rfl
  · obtain ⟨x, hx, hseq⟩ := hdup
    rw [ListenEntry.arrive_of_play hne hp, if_neg (by omega), if_neg (by omega),
      if_pos (ListenEntry.holds_iff.2 (List.mem_map.2 ⟨x, hx, hseq⟩))]
    rfl
  · have hnot : ¬ e.holds q = true := fun h => by
      obtain ⟨x, hx, hseq⟩ := List.mem_map.1 (ListenEntry.holds_iff.1 h)
      exact hnew x hx hseq
    rw [ListenEntry.arrive_of_play hne hp, if_neg (by omega), if_neg (by omega), if_neg hnot, ListenEntry.endPriming_eq,
      List.length_append]
    rfl

/-- Settles O57: the subscriber list of the source by the station, and the timers by what they find. -/
theorem subscriptionsAreKept : Obligations.SubscriptionsAreKept := by
  refine fun s o own => ⟨fun hmode hring hown h63 ho => ⟨fun n c i hi => ?_, fun i c hi hhand => ?_⟩, fun n => ⟨fun hnone => ?_,
    fun x hx hst honly => ?_⟩, fun k => ⟨fun hk => ?_, fun e hk hstill => ?_, fun e t hk habsent hjoin => ?_⟩⟩
  · have htakes := State.takesCopies_of hmode hring
    have hselects : s.selects o own = true :=
      State.selects_eq_true (by rw [hown]; exact fun h => ho (Option.some.inj h).symm) (.inr hown)
    obtain ⟨_, hn⟩ := n
    subst hi
    refine ⟨fun hhand hpresent => ?_, fun hhand habsent => ?_, fun hhand => ?_, fun rest hhand => ?_⟩
    · refine ((s.join_copied true o own i c).of_nil htakes hselects hhand).trans (congrArg _ ?_)
      rw [State.dispatchOwn_of_own h63, State.takeJoin, dif_pos hn, if_pos hpresent]
      rfl
    · refine ((s.join_copied true o own i c).of_nil htakes hselects hhand).trans (congrArg _ ?_)
      rw [State.dispatchOwn_of_own h63, State.takeJoin, dif_pos hn, habsent]
      rfl
    · refine ((s.leave_copied true o own i).of_nil htakes hselects hhand).trans (congrArg _ ?_)
      rw [State.dispatchOwn_of_own h63, State.takeLeave, dif_pos hn]
      rfl
    · refine ((s.leave_copied true o own i).of_cons htakes hselects hhand).trans (congrArg _ ?_)
      rw [State.dispatchOwn_of_own h63, State.takeLeave, dif_pos hn]
      rfl
  · have htakes := State.takesCopies_of hmode hring
    have hselects : s.selects o own = true :=
      State.selects_eq_true (by rw [hown]; exact fun h => ho (Option.some.inj h).symm) (.inr hown)
    refine List.forall_mem_cons.2 ⟨?_, List.forall_mem_singleton.2 ?_⟩
    · refine ((s.join_copied true o own i c).of_nil htakes hselects hhand).trans (congrArg _ ?_)
      rw [State.dispatchOwn_of_own h63, State.takeJoin, dif_neg (by omega)]
      rfl
    · refine ((s.leave_copied true o own i).of_nil htakes hselects hhand).trans (congrArg _ ?_)
      rw [State.dispatchOwn_of_own h63, State.takeLeave, dif_neg (by omega)]
      rfl
  · have hfind : s.sends[n].find? (fun x => x.station == o) = none := List.find?_eq_none.2 fun x hx => by
      simpa using hnone x hx
    rw [exec, execSubscriberExpiry, hfind]
  · let isOf (x : Subscriber) : Bool := x.station == o
    have hfind : s.sends[n].find? (fun x => x.station == o) = some x := by
      obtain ⟨y, hy⟩ := Option.isSome_iff_exists.1 ((List.find?_isSome (p := isOf)).2 ⟨x, hx, beq_iff_eq.2 hst⟩)
      rw [hy, honly y (List.mem_of_find?_eq_some hy) (beq_iff_eq.1 (List.find?_some (p := isOf) hy))]
    rw [exec, State.execSubscriberExpiry_of_find hfind, ms_600, State.setSend_reach]
    rfl
  · rw [exec, execJoinRefreshExpiry, hk]
  · rw [exec, execJoinRefreshExpiry, hk]
    dsimp only
    rcases hstill with h | h
    · rw [h]
    · rw [h]
      cases e.absent <;> rfl
  · rw [exec, State.execJoinRefreshExpiry_of_due hk habsent hjoin, ms_200]
    exact congrArg _ (State.handJoin_reach hk _)

/-- Refutes O30: a TALK-STATE of the reason code 8 is taken as a reply of no reason and not counted as ignored. -/
theorem not_talkStateUpdatesReplies : ¬ Obligations.TalkStateUpdatesReplies := by
  intro h
  have hignored := ((h State.oneTalkOut 1 0 0).1 0 0 8 (by decide) rfl (by decide) (by decide) rfl).1 (.inr (by decide))
  have htaken : exec (.talkState true 1 0 0 0 0 8) State.oneTalkOut =
      .next (State.oneTalkOut.takeReply 0 ⟨1, 0, .granted, .none⟩) := congrArg Host.Outcome.next State.oneTalkOut_takes
  have hcount := congrArg (fun u : State => u.counters.talkerIgnored)
    (Host.Outcome.next.inj (htaken.symm.trans hignored))
  exact absurd hcount (by decide)

/-- Settles O24: a group is taken mix by mix, and the copy of a TALK by the arbiter. -/
theorem talkExpandsToMixes : Obligations.TalkExpandsToMixes := by
  refine fun s o n src c f v => ⟨fun own target kind htakes hown h63 ho hhand => ?_, fun h1 h7 toAll => ?_, fun h => ?_, fun h => ?_, rfl⟩
  · have hne : s.cfg.number ≠ some o := by
      rw [hown]
      exact fun h => ho (Option.some.inj h).symm
    refine ⟨fun ht => ?_, fun ht => ?_⟩
    · subst ht
      have hcopied := (s.talk_copied true o target n src c f kind v).of_nil htakes (State.selects_eq_true hne (.inr hown)) hhand
      rwa [beq_eq_false_iff_ne.2 h63] at hcopied
    · have hcopied := (s.talk_copied true o target n src c f kind v).of_nil htakes (State.selects_eq_true hne (.inl ht)) hhand
      rwa [ht] at hcopied
  · rw [State.takeTalk_group _ _ _ ⟨h1, h7⟩]
    exact congrFun (congrFun (congrArg List.foldl (funext fun u => funext fun m => (u.takeTalk_mix _ m).symm)) s) _
  · exact ⟨s.takeTalk_bad_group false _ h, s.takeTalk_bad_group true _ h⟩
  · exact s.takeTalk_bad_mix _ h

end Sys2Proof.Proofs

/-!
SUPPORT. The arbiter's operations on one mix as equations: a refresh, a new talk, an end, a lapse (R51 to R60).
-/

namespace Sys2Proof.Machine

variable {s : State} {m : Mix} {q : TalkRequest} {o : Station} {n : TalkNo}

/-! ### Keys -/

theorem MixTalks.not_mem_keys_iff {x : MixTalks} :
    (o, n) ∉ x.keys ↔ ∀ r ∈ x.granted ++ x.waiting, ¬ (r.talker = o ∧ r.number = n) := by
  rw [MixTalks.mem_keys, not_exists]
  exact forall_congr' fun r => by rw [not_and, InTalk.key, Prod.mk.injEq]

theorem InTalk.isOf_iff_and {t : InTalk} : t.isOf o n = true ↔ t.talker = o ∧ t.number = n := by
  rw [InTalk.isOf_iff, InTalk.key, Prod.mk.injEq]

theorem find?_isOf_eq_none {l : List InTalk} :
    l.find? (fun t => t.isOf o n) = none ↔ ∀ r ∈ l, ¬ (r.talker = o ∧ r.number = n) := by
  rw [List.find?_eq_none]
  exact forall₂_congr fun r _ => not_congr InTalk.isOf_iff_and

/-- A key that no record of the mix has is found nowhere. -/
theorem MixTalks.find?_of_not_mem_keys {x : MixTalks} (h : (o, n) ∉ x.keys) :
    x.granted.find? (fun t => t.isOf o n) = none ∧ x.waiting.find? (fun t => t.isOf o n) = none := by
  have hnone := MixTalks.not_mem_keys_iff.1 h
  exact ⟨find?_isOf_eq_none.2 fun r hr => hnone r (List.mem_append_left _ hr),
    find?_isOf_eq_none.2 fun r hr => hnone r (List.mem_append_right _ hr)⟩

theorem eq_of_find?_isOf {l : List InTalk} {r : InTalk} (h : l.find? (fun t => t.isOf o n) = some r) :
    r ∈ l ∧ r.talker = o ∧ r.number = n := by
  have hof : r.isOf o n = true := List.find?_some (p := fun t : InTalk => t.isOf o n) h
  exact ⟨List.mem_of_find?_eq_some h, InTalk.isOf_iff_and.1 hof⟩

/-- Where the keys are unique, the one record of its key is all that a filter takes off. -/
theorem erase_eq_filter_of_find? : ∀ {l : List InTalk} {r : InTalk}, (l.map InTalk.key).Nodup →
    l.find? (fun t => t.isOf o n) = some r → l.erase r = l.filter fun t => !(t.isOf o n) := by
  intro l
  induction l with
  | nil => nofun
  | cons x l ih =>
    intro r hnodup hfind
    obtain ⟨hx, hl⟩ := List.nodup_cons.1 hnodup
    by_cases hof : x.isOf o n = true
    · rw [List.find?_cons_of_pos (p := fun t : InTalk => t.isOf o n) hof] at hfind
      cases hfind
      have hkeep : ∀ t ∈ l, (!(t.isOf o n)) = true := fun t ht => by
        rw [Bool.not_eq_true', Bool.eq_false_iff]
        exact fun ht' => hx (List.mem_map.2 ⟨t, ht, (InTalk.isOf_iff.1 ht').trans (InTalk.isOf_iff.1 hof).symm⟩)
      rw [List.erase_cons_head, List.filter_cons_of_neg (by rw [hof]; nofun), List.filter_eq_self.2 hkeep]
    · rw [List.find?_cons_of_neg (p := fun t : InTalk => t.isOf o n) hof] at hfind
      have hne : ¬ (x == r) = true := fun h => hof (by
        rw [beq_iff_eq.1 h]
        exact List.find?_some (p := fun t : InTalk => t.isOf o n) hfind)
      rw [List.erase_cons_tail hne, List.filter_cons_of_pos (by rw [Bool.not_eq_true', Bool.eq_false_iff]; exact hof), ih hl hfind]

/-! ### A TALK for one mix (R51, R52) -/

theorem refreshIn_eq (ts : List InTalk) (q : TalkRequest) (now : Nat) : refreshIn ts q now =
    ts.map fun t => if t.talker = q.talker ∧ t.number = q.number then { t with lastRefresh := now } else t := by
  refine List.map_congr_left fun t _ => ?_
  by_cases h : t.talker = q.talker ∧ t.number = q.number
  · rw [if_pos h, if_pos (InTalk.isOf_iff_and.2 h)]
  · rw [if_neg h, if_neg (mt InTalk.isOf_iff_and.1 h)]

theorem State.takeTalkMix_of_new (hg : s.talks[m].granted.find? (fun t => t.isOf q.talker q.number) = none)
    (hw : s.talks[m].waiting.find? (fun t => t.isOf q.talker q.number) = none) :
    State.takeTalkMix q s m = s.newTalk m q := by
  unfold State.takeTalkMix
  dsimp only
  rw [hg]
  dsimp only
  rw [hw]

/-- A TALK of a key that no record of the mix has. -/
theorem State.takeTalkMix_of_not_mem_keys (h : (q.talker, q.number) ∉ s.talks[m].keys) :
    State.takeTalkMix q s m = s.newTalk m q :=
  State.takeTalkMix_of_new (MixTalks.find?_of_not_mem_keys h).1 (MixTalks.find?_of_not_mem_keys h).2

section
variable {r : InTalk} (hr : s.talks[m].granted.find? (fun t => t.isOf q.talker q.number) = some r)
include hr

theorem State.takeTalkMix_of_granted : State.takeTalkMix q s m =
    if r.source = q.source then (s.setTalks m ⟨refreshIn s.talks[m].granted q s.clock.now,
      refreshIn s.talks[m].waiting q s.clock.now⟩).answer q.talker q.number (mixField m) .granted .none
    else (s.endRecord m q.talker q.number).newTalk m q := by
  unfold State.takeTalkMix
  dsimp only
  rw [hr]

end

section
variable {r : InTalk} (hnone : s.talks[m].granted.find? (fun t => t.isOf q.talker q.number) = none)
  (hr : s.talks[m].waiting.find? (fun t => t.isOf q.talker q.number) = some r)
include hnone hr

theorem State.takeTalkMix_of_waiting : State.takeTalkMix q s m =
    if r.source = q.source then (s.setTalks m ⟨refreshIn s.talks[m].granted q s.clock.now,
      refreshIn s.talks[m].waiting q s.clock.now⟩).answer q.talker q.number (mixField m)
        (if r.preempted then .preempted else .waiting) .none
    else (s.endRecord m q.talker q.number).newTalk m q := by
  unfold State.takeTalkMix
  dsimp only
  rw [hnone]
  dsimp only
  rw [hr]

end

theorem State.endRecord_of_granted {r : InTalk} (hr : s.talks[m].granted.find? (fun t => t.isOf o n) = some r) :
    s.endRecord m o n = (s.dropGranted m r .ended).fill m := by
  rw [State.endRecord, hr]

theorem State.endRecord_of_waiting {r : InTalk} (hnone : s.talks[m].granted.find? (fun t => t.isOf o n) = none)
    (hr : s.talks[m].waiting.find? (fun t => t.isOf o n) = some r) : s.endRecord m o n = s.dropWaiting m r := by
  rw [State.endRecord, hnone]
  dsimp only
  rw [hr]

theorem State.endRecord_of_none (hg : s.talks[m].granted.find? (fun t => t.isOf o n) = none)
    (hw : s.talks[m].waiting.find? (fun t => t.isOf o n) = none) : s.endRecord m o n = s := by
  rw [State.endRecord, hg]
  dsimp only
  rw [hw]

/-- After its record has ended, a TALK is a new one. -/
theorem State.takeTalkMix_of_ended (h : s.KeysUnique) : State.takeTalkMix q (s.endRecord m q.talker q.number) m =
    (s.endRecord m q.talker q.number).newTalk m q :=
  State.takeTalkMix_of_not_mem_keys (State.endRecord_not_mem_keys h m _ _)

/-- The copy of a peer's TALK for one mix. -/
theorem State.exec_talk_mix {own : Station} (src : SourceAddr) (c : Cls) (f : Bool) (htakes : s.takesCopies = true)
    (hown : s.cfg.number = some own) (h63 : own.val ≠ 63) (ho : o ≠ own) (hhand : s.ring.handOff = []) :
    exec (.talk true o own n src c f .mix (mixField m)) s = .next (s.takeTalk false ⟨o, n, src, c, f⟩ .mix (mixField m)) := by
  have hselects : s.selects o own = true :=
    State.selects_eq_true (by rw [hown]; exact fun h => ho (Option.some.inj h).symm) (.inr hown)
  have hcopied := (s.talk_copied true o own n src c f .mix (mixField m)).of_nil htakes hselects hhand
  rwa [beq_eq_false_iff_ne.2 h63] at hcopied

theorem State.answer_of_peer {k : Fin 32} {a : TalkAnswer} {w : Reason} (h : some o ≠ s.cfg.number) :
    s.answer o n k a w = s.hand ⟨o, .talkState n k a w⟩ := if_neg h

theorem State.answer_of_own {k : Fin 32} {a : TalkAnswer} {w : Reason} (h : some o = s.cfg.number) :
    s.answer o n k a w = s.takeReply n ⟨o, k, a, w⟩ := if_pos h

/-! ### A new talk (R52 to R56) -/

theorem victimOf_pair (a b : InTalk) : victimOf [a, b] = some (if b.cls < a.cls then a else b) := by
  by_cases h : b.cls < a.cls
  · rw [if_pos h]
    exact if_neg (not_le.2 h)
  · rw [if_neg h]
    exact if_pos (not_lt.1 h)

theorem State.newTalk_of_test {why : Reason} (h : s.talkTest m q = some why) :
    s.newTalk m q = s.answer q.talker q.number (mixField m) .refused why := by
  rw [State.newTalk, h]

theorem State.newTalk_of_free (h : s.talkTest m q = none) (hfree : s.talks[m].granted.length < 2) :
    s.newTalk m q = s.grantTalk m q := by
  rw [State.newTalk, h]
  exact if_pos hfree

theorem State.newTalk_of_full {a b : InTalk} (h : s.talkTest m q = none) (hg : s.talks[m].granted = [a, b]) :
    s.newTalk m q = if q.cls < (if b.cls < a.cls then a else b).cls then s.preempt m q (if b.cls < a.cls then a else b)
      else s.waitTalk m q := by
  rw [State.newTalk, h]
  dsimp only
  rw [hg, victimOf_pair]
  exact if_neg (show ¬ 2 < Config.slots from Nat.lt_irrefl 2)

theorem State.grantTalk_of_none (h : s.hold m q.source q.cls = none) :
    s.grantTalk m q = s.answer q.talker q.number (mixField m) .refused .noRoute := by
  rw [State.grantTalk, h]

theorem State.grantTalk_of_some {t : State} (h : s.hold m q.source q.cls = some t) : s.grantTalk m q =
    (({ t with talks := s.talks.set m ⟨s.talks[m].granted ++ [q.record s.clock.now s.audio.blockCounter],
        s.talks[m].waiting⟩ } : State).answer q.talker q.number (mixField m) .granted .none).emit
      (.incoming m q.talker q.number q.source q.cls q.intr true .grant) := by
  obtain ⟨hstep, htalks, -⟩ := State.hold_spec h
  rw [State.grantTalk, h]
  dsimp only
  rw [State.setTalks, htalks, hstep.clock, hstep.audio]
  rfl

theorem State.preempt_of_none {v : InTalk} (h : s.exchange m v (s.talks[m].granted.erase v) q.source q.cls = none) :
    s.preempt m q v = s.answer q.talker q.number (mixField m) .refused .noRoute := by
  unfold State.preempt
  dsimp only
  rw [h]

theorem State.preempt_of_some {v : InTalk} {t : State}
    (h : s.exchange m v (s.talks[m].granted.erase v) q.source q.cls = some t) : s.preempt m q v =
    (((({ t with talks := s.talks.set m ⟨s.talks[m].granted.erase v ++ [q.record s.clock.now s.audio.blockCounter],
        enqueuePreempted s.talks[m].waiting { v with preempted := true, orderStamp := s.audio.blockCounter }⟩ } :
      State).answer v.talker v.number (mixField m) .preempted .none).answer q.talker q.number (mixField m) .granted .none).emit
        (.incoming m v.talker v.number v.source v.cls v.intr false .preempted)).emit
      (.incoming m q.talker q.number q.source q.cls q.intr true .grant) := by
  obtain ⟨hstep, htalks, -⟩ := State.exchange_spec h
  unfold State.preempt
  dsimp only
  rw [h]
  dsimp only
  rw [State.setTalks, htalks, hstep.clock, hstep.audio]
  rfl

/-! ### The ends of a talk on every mix (R59) -/

/-- A fold over mixes, each step changing only its own mix, does to a mix what its own step does. -/
theorem foldl_elsewhere {f : State → Mix → State} {P : State → Prop} (hf : ∀ s m, State.Elsewhere m s (f s m))
    (hP : ∀ s m, P s → P (f s m)) : ∀ {l : List Mix}, l.Nodup → ∀ {m : Mix}, m ∈ l → ∀ {s : State}, P s →
      ∃ u, P u ∧ u.talks[m] = s.talks[m] ∧ u.routes[m] = s.routes[m] ∧
        (l.foldl f s).talks[m] = (f u m).talks[m] ∧ (l.foldl f s).routes[m] = (f u m).routes[m] := by
  have hrest : ∀ {l : List Mix} {m : Mix}, m ∉ l → ∀ {s : State},
      (l.foldl f s).talks[m] = s.talks[m] ∧ (l.foldl f s).routes[m] = s.routes[m] := by
    intro l m
    induction l with
    | nil => exact fun _ _ => ⟨rfl, rfl⟩
    | cons k l ih =>
      intro hm s
      obtain ⟨hk, hl⟩ := not_or.1 (mt List.mem_cons.2 hm)
      have hstep := hf s k m hk
      have hfold := ih hl (s := f s k)
      exact ⟨hfold.1.trans hstep.1, hfold.2.trans hstep.2⟩
  intro l
  induction l with
  | nil => nofun
  | cons k l ih =>
    intro hnodup m hm s hs
    obtain ⟨hk, hl⟩ := List.nodup_cons.1 hnodup
    by_cases heq : m = k
    · subst heq
      exact ⟨s, hs, rfl, rfl, hrest hk⟩
    · obtain ⟨u, hu, htalks, hroutes, hfold⟩ := ih hl ((List.mem_cons.1 hm).resolve_left heq) (hP s k hs)
      have hstep := hf s k m heq
      exact ⟨u, hu, htalks.trans hstep.1, hroutes.trans hstep.2, hfold⟩

/-- Two folds by steps that agree wherever an invariant holds. -/
theorem foldl_congr_of {α : Type} {f g : State → α → State} {P : State → Prop} (hP : ∀ s a, P s → P (f s a))
    (hfg : ∀ s a, P s → f s a = g s a) (l : List α) : ∀ {s : State}, P s → l.foldl f s = l.foldl g s := by
  induction l with
  | nil => exact fun _ => rfl
  | cons a l ih =>
    intro s hs
    exact (ih (hP s a hs)).trans (congrArg (List.foldl g · l) (hfg s a hs))

theorem State.takeTalkEnd_at (h : s.KeysUnique) (m : Mix) (o : Station) (n : TalkNo) :
    ∃ u : State, u.KeysUnique ∧ u.talks[m] = s.talks[m] ∧ u.routes[m] = s.routes[m] ∧
      (s.takeTalkEnd o n).talks[m] = (u.endRecord m o n).talks[m] ∧
      (s.takeTalkEnd o n).routes[m] = (u.endRecord m o n).routes[m] :=
  foldl_elsewhere (f := fun s m => s.endRecord m o n) (fun s m => (s.endRecord_endStep m o n).elsewhere)
    (fun s m => (s.endRecord_endStep m o n).toRemovalStep.keysUnique) (List.nodup_finRange 24) (List.mem_finRange m) h

/-- The waiting records of a key leave the wait list, of which there is one at most. -/
theorem State.endRecord_of_not_granted (h : s.KeysUnique) (hg : s.talks[m].granted.find? (fun t => t.isOf o n) = none) :
    s.endRecord m o n = s.setTalks m ⟨s.talks[m].granted, s.talks[m].waiting.filter fun t => !(t.isOf o n)⟩ := by
  have hnodup : (s.talks[m].waiting.map InTalk.key).Nodup := (h m).sublist ((List.sublist_append_right ..).map _)
  cases hw : s.talks[m].waiting.find? (fun t => t.isOf o n) with
  | some r =>
    rw [State.endRecord_of_waiting hg hw, State.dropWaiting, erase_eq_filter_of_find? hnodup hw]
  | none =>
    have hkeep : s.talks[m].waiting.filter (fun t => !(t.isOf o n)) = s.talks[m].waiting :=
      List.filter_eq_self.2 fun t ht => by simpa using List.find?_eq_none.1 hw t ht
    have hset : s.talks.set m s.talks[m] = s.talks := Vector.set_getElem_self ..
    rw [State.endRecord_of_none hg hw, hkeep, State.setTalks]
    exact (congrArg (fun v => { s with talks := v }) hset).symm

theorem State.endRecord_granted (hr : r ∈ s.talks[m].granted) (hne : ¬ (r.talker = o ∧ r.number = n)) :
    r ∈ (s.endRecord m o n).talks[m].granted := by
  unfold State.endRecord
  split
  case h_1 t ht =>
    refine (State.fill_fillStep _ m).granted.mem ?_
    rw [s.dropGranted_talks, vector_set_getElem_self]
    refine (List.mem_erase_of_ne fun heq => hne ?_).2 hr
    rw [heq]
    exact (eq_of_find?_isOf ht).2
  case h_2 =>
    split
    · unfold State.dropWaiting
      rw [State.setTalks_talks_self]
      exact hr
    · exact hr

/-! ### Removals and the lapse (R60 to R62) -/

theorem State.execLapse_of_waiting {r : InTalk} (hg : s.talks[m].granted.find? (fun t => t.isOf o n) = none)
    (hw : s.talks[m].waiting.find? (fun t => t.isOf o n) = some r) : execLapseTimerExpiry o n m s =
      .next ((s.reach (r.lastRefresh + Config.ms 150)).lapse m r false) := by
  rw [execLapseTimerExpiry, hg]
  dsimp only
  rw [hw]

theorem State.execLapse_of_granted {r : InTalk} (hg : s.talks[m].granted.find? (fun t => t.isOf o n) = some r) :
    execLapseTimerExpiry o n m s = .next ((s.reach (r.lastRefresh + Config.ms 150)).lapse m r true) := by
  rw [execLapseTimerExpiry, hg]

theorem State.lapse_waiting_reach (t : Nat) (r : InTalk) : (s.reach t).lapse m r false =
    ({ s.reach t with talks := s.talks.set m ⟨s.talks[m].granted, s.talks[m].waiting.erase r⟩ } : State).answer
      r.talker r.number (mixField m) .lapsed .timeout := rfl

theorem State.lapse_granted_reach (t : Nat) (r : InTalk) : (s.reach t).lapse m r true =
    (((({ s.reach t with talks := s.talks.set m ⟨s.talks[m].granted.erase r, s.talks[m].waiting⟩ } : State).release m
      r.source).emit (.incoming m r.talker r.number r.source r.cls r.intr false .timeout)).answer r.talker r.number (mixField m)
        .lapsed .timeout).fill m := rfl

theorem State.exec_lapse_waiting {r : InTalk} {due : Nat} (hg : s.talks[m].granted.find? (fun t => t.isOf o n) = none)
    (hw : s.talks[m].waiting.find? (fun t => t.isOf o n) = some r) (hdue : r.lastRefresh + Config.ms 150 = due) :
    exec (.lapseTimerExpiry o n m) s = .next (({ s.reach due with
      talks := s.talks.set m ⟨s.talks[m].granted, s.talks[m].waiting.erase r⟩ } : State).answer
        r.talker r.number (mixField m) .lapsed .timeout) := by
  rw [exec, State.execLapse_of_waiting hg hw, hdue, State.lapse_waiting_reach]

/-- The lapse of a GRANTED record: the others stay, its event comes first, and its slot is filled. -/
theorem State.lapse_granted (s : State) (r : InTalk) (hr : r ∈ s.talks[m].granted) (h : s.KeysUnique) :
    r.key ∉ (s.lapse m r true).talks[m].keys ∧
    (∀ x ∈ s.talks[m].granted, x ≠ r → x ∈ (s.lapse m r true).talks[m].granted) ∧
    (2 ≤ (s.lapse m r true).talks[m].granted.length ∨ (s.lapse m r true).talks[m].waiting = []) ∧
    ∃ es : List Event, (s.lapse m r true).events = es.foldl EventQueue.push
      (s.events.push (.incoming m r.talker r.number r.source r.cls r.intr false .timeout)) := by
  have hlapse : s.lapse m r true = ((s.dropGranted m r .timeout).answerFor m r .lapsed .timeout).fill m := rfl
  have hanswer := State.answerFor_answerStep (s.dropGranted m r .timeout) m r .lapsed .timeout
  have hfill := State.fill_fillStep ((s.dropGranted m r .timeout).answerFor m r .lapsed .timeout) m
  have htalks : ((s.dropGranted m r .timeout).answerFor m r .lapsed .timeout).talks[m] =
      ⟨s.talks[m].granted.erase r, s.talks[m].waiting⟩ := by
    rw [hanswer.talks, s.dropGranted_talks, vector_set_getElem_self]
  rw [hlapse]
  refine ⟨hfill.toRemovalStep.not_mem_keys ?_, fun x hx hne => hfill.granted.mem ?_, State.fill_full _ m, ?_⟩
  · rw [htalks]
    exact (not_mem_keys_erase (h m)).1 hr
  · rw [htalks]
    exact (List.mem_erase_of_ne hne).2 hx
  · have hdrop : (s.dropGranted m r .timeout).events =
        s.events.push (.incoming m r.talker r.number r.source r.cls r.intr false .timeout) :=
      congrArg (EventQueue.push · _) (State.release_spec _ m r.source).2.2.2.1
    rw [← hdrop]
    exact exists_events_trans hanswer.events hfill.events

theorem State.TalkStep.eq_reach {t : State} {due : Nat} (h : (s.reach due).TalkStep t) : t = { s.reach due with
    routes := t.routes, talks := t.talks, outTalks := t.outTalks, listens := t.listens
    sched := { s.sched with notes := t.sched.notes }, counters := t.counters, events := t.events } := h.eq

/-- The lapse timer of a GRANTED record, at its due time. -/
theorem State.exec_lapse_granted {r : InTalk} {due : Nat} (hg : s.talks[m].granted.find? (fun t => t.isOf o n) = some r)
    (h : s.KeysUnique) (hdue : r.lastRefresh + Config.ms 150 = due) :
    ∃ t, exec (.lapseTimerExpiry o n m) s = .next t ∧
      t = (((({ s.reach due with talks := s.talks.set m ⟨s.talks[m].granted.erase r, s.talks[m].waiting⟩ } : State).release m
        r.source).emit (.incoming m r.talker r.number r.source r.cls r.intr false .timeout)).answer r.talker r.number
          (mixField m) .lapsed .timeout).fill m ∧
      (∀ x ∈ t.talks[m].granted ++ t.talks[m].waiting, ¬ (x.talker = r.talker ∧ x.number = r.number)) ∧
      (∀ x ∈ s.talks[m].granted, x ≠ r → x ∈ t.talks[m].granted) ∧
      (2 ≤ t.talks[m].granted.length ∨ t.talks[m].waiting = []) ∧ State.Elsewhere m s t ∧
      (∃ es : List Event, t.events = es.foldl EventQueue.push
        (s.events.push (.incoming m r.talker r.number r.source r.cls r.intr false .timeout))) ∧
      (s.reach due).TalkStep t := by
  have hr := (eq_of_find?_isOf hg).1
  obtain ⟨hgone, hstay, hfull, hevents⟩ := State.lapse_granted (s.reach due) r hr h
  have hend := State.lapse_endStep (s.reach due) m (t := r) (g := true) fun _ => hr
  refine ⟨_, ?_, State.lapse_granted_reach due r, MixTalks.not_mem_keys_iff.1 hgone, hstay, hfull, hend.elsewhere, hevents,
    hend.toTalkStep⟩
  rw [exec, State.execLapse_of_granted hg, hdue]

end Sys2Proof.Machine

namespace Sys2Proof.Proofs

open Sys2Proof.Machine

/-- Settles O22: the record of the key where it stands, and its end where the source is another. -/
theorem talkRefreshAnswersState : Obligations.TalkRefreshAnswersState := by
  intro s o n src c f m r
  have htaken := s.takeTalk_mix ⟨o, n, src, c, f⟩ m
  refine ⟨fun own htakes hown h63 ho hhand => State.exec_talk_mix src c f htakes hown h63 ho hhand,
    fun a why => ⟨State.answer_of_peer, State.answer_of_own⟩, fun hr => ?_, fun hnone hr => ?_⟩
  · have hrecord := htaken.trans (State.takeTalkMix_of_granted hr)
    obtain ⟨-, rfl, rfl⟩ := eq_of_find?_isOf hr
    refine ⟨fun hsrc => (hrecord.trans (if_pos hsrc)).trans ?_, fun hsrc hkeys => ⟨?_, (hrecord.trans (if_neg hsrc)).trans ?_⟩⟩
    · rw [refreshIn_eq, refreshIn_eq]
      rfl
    · have hgone := State.endRecord_not_mem_keys hkeys m r.talker r.number
      rw [State.endRecord_of_granted hr] at hgone
      exact MixTalks.not_mem_keys_iff.1 hgone
    · refine (State.takeTalkMix_of_ended (m := m) (q := ⟨r.talker, r.number, src, c, f⟩) hkeys).symm.trans ?_
      rw [State.endRecord_of_granted hr]
      exact (State.takeTalk_mix _ _ m).symm
  · have hrecord := htaken.trans (State.takeTalkMix_of_waiting hnone hr)
    refine ⟨fun hsrc => (hrecord.trans (if_pos hsrc)).trans ?_, fun hsrc hkeys => (hrecord.trans (if_neg hsrc)).trans ?_⟩
    · rw [refreshIn_eq, refreshIn_eq]
      rfl
    · refine (State.takeTalkMix_of_ended (m := m) (q := ⟨o, n, src, c, f⟩) hkeys).symm.trans ?_
      rw [State.endRecord_of_waiting hnone hr]
      exact (State.takeTalk_mix _ _ m).symm

/-- Settles O23: the tests, then the slots of the mix and the victim. -/
theorem newTalkIsArbitrated : Obligations.NewTalkIsArbitrated := by
  intro s o n src c f m hg hw
  have hstep := State.takeTalkMix_talkTaken ⟨o, n, src, c, f⟩ s m
  have htaken := (s.takeTalk_mix ⟨o, n, src, c, f⟩ m).trans (State.takeTalkMix_of_new hg hw)
  rw [← s.takeTalk_mix ⟨o, n, src, c, f⟩ m] at hstep
  refine ⟨fun own htakes hown h63 ho hhand => State.exec_talk_mix src c f htakes hown h63 ho hhand,
    fun why hwhy => htaken.trans (State.newTalk_of_test hwhy), fun htest hfree => ?_, fun a b htest hab => ?_,
    hstep.elsewhere, hstep.toTalkStep.eq⟩
  · have hgrant := htaken.trans (State.newTalk_of_free htest hfree)
    exact ⟨fun hhold => hgrant.trans (State.grantTalk_of_none hhold), fun t hhold => hgrant.trans (State.grantTalk_of_some hhold)⟩
  · have hfull := htaken.trans (State.newTalk_of_full htest hab)
    generalize (if b.cls < a.cls then a else b) = v at hfull ⊢
    rw [← hab]
    refine ⟨fun hle => ⟨_, rfl, (hfull.trans (if_neg (not_lt.2 hle))).trans rfl⟩, fun hlt hex => ?_, fun t hlt hex => ?_⟩
    · exact (hfull.trans (if_pos hlt)).trans (State.preempt_of_none hex)
    · exact (hfull.trans (if_pos hlt)).trans (State.preempt_of_some hex)

/-- Settles O25: a TALK-END mix by mix, and the filling of a slot by the head of the wait list. -/
theorem talkEndRemovesRecords : Obligations.TalkEndRemovesRecords := by
  refine ⟨fun s o n hkeys => ⟨fun own target htakes hown ho hhand htarget => ?_, ?_, fun m => ?_, fun m r hr hne => ?_,
    fun m hnot => ?_, fun m hsome => ?_, (s.takeTalkEnd_removalStep o n).toTalkStep.eq⟩, fun s m => ⟨State.fill_of_full,
    fun w ws hfree hw => ⟨State.fill_of_refused hfree hw, fun t hhold => ?_⟩⟩⟩
  · have hselects : s.selects o target = true :=
      State.selects_eq_true (by rw [hown]; exact fun h => ho (Option.some.inj h).symm)
        (htarget.elim (fun h => .inr (by rw [hown, h])) .inl)
    exact (s.talkEnd_copied true o target n).of_nil htakes hselects hhand
  · refine foldl_congr_of (fun u k => (u.endRecord_endStep k o n).toRemovalStep.keysUnique) (fun u k hu => ?_) _ hkeys
    cases hg : u.talks[k].granted.find? (fun t => t.isOf o n) with
    | some r =>
      have hfind : u.talks[k].granted.find? (fun x => x.talker == o && x.number == n) = some r := hg
      obtain ⟨-, rfl, rfl⟩ := eq_of_find?_isOf hg
      dsimp only
      rw [State.endRecord_of_granted hg, hfind]
      rfl
    | none =>
      have hfind : u.talks[k].granted.find? (fun x => x.talker == o && x.number == n) = none := hg
      dsimp only
      rw [State.endRecord_of_not_granted hu hg, hfind]
      rfl
  · obtain ⟨u, hu, -, -, htalks, -⟩ := State.takeTalkEnd_at hkeys m o n
    refine MixTalks.not_mem_keys_iff.1 ?_
    rw [htalks]
    exact State.endRecord_not_mem_keys hu m o n
  · obtain ⟨u, hu, hsame, -, htalks, -⟩ := State.takeTalkEnd_at hkeys m o n
    rw [htalks]
    rw [← hsame] at hr
    exact State.endRecord_granted hr hne
  · obtain ⟨u, hu, hsame, hroutes, htalks, hends⟩ := State.takeTalkEnd_at hkeys m o n
    rw [htalks, hends, State.endRecord_of_not_granted hu (find?_isOf_eq_none.2 (by rw [hsame]; exact hnot)),
      State.setTalks_talks_self, hsame]
    exact ⟨rfl, hroutes⟩
  · obtain ⟨u, hu, hsame, -, htalks, -⟩ := State.takeTalkEnd_at hkeys m o n
    rw [← hsame] at hsome
    cases hg : u.talks[m].granted.find? (fun t => t.isOf o n) with
    | some r =>
      rw [htalks, State.endRecord_of_granted hg]
      exact State.fill_full _ m
    | none =>
      obtain ⟨r, hr, hkey⟩ := hsome
      exact absurd hkey (find?_isOf_eq_none.1 hg r hr)
  · have htalks : t.talks.set m ⟨s.talks[m].granted ++ [w.grantedAt s.audio.blockCounter], ws⟩ =
        s.talks.set m ⟨s.talks[m].granted ++ [w.grantedAt s.audio.blockCounter], ws⟩ := by
      rw [(State.hold_spec hhold).2.1]
      exact Vector.set_set ..
    rw [State.fill_of_held hfree hw hhold, State.setTalks, htalks]
    rfl

/-- Settles O26: the record found, taken off at its due time. -/
theorem lapseRemovesRecord : Obligations.LapseRemovesRecord := by
  refine ⟨fun s m why cause r => ⟨rfl, rfl⟩, fun s o n m r => ?_⟩
  have hdue : r.lastRefresh + Config.ms 150 = r.lastRefresh + 3686400 := congrArg (r.lastRefresh + ·) ms_150
  refine ⟨fun hg hw => ?_, fun hg hkeys => ?_⟩
  · obtain ⟨-, rfl, rfl⟩ := eq_of_find?_isOf hw
    exact State.exec_lapse_waiting hg hw hdue
  · obtain ⟨-, rfl, rfl⟩ := eq_of_find?_isOf hg
    obtain ⟨t, hexec, heq, hgone, hstay, hfull, helse, hevents, hstep⟩ := State.exec_lapse_granted hg hkeys hdue
    exact ⟨t, hexec, heq, hgone, hstay, hfull, helse, hevents, State.TalkStep.eq_reach hstep⟩

end Sys2Proof.Proofs

/-!
SUPPORT. The outgoing talks as equations: where a TALK and a TALK-END go, the creation and the release of a record, and
its two timers (R70 to R76, R79).
-/

namespace Sys2Proof.Machine

variable {s t : State} {n : TalkNo} {x : OutTalk} {own : Station}

/-- What a talk step and a response leave, as one equation. -/
theorem State.TalkStep.eq_respond (h : s.TalkStep t) (code : BitVec 8) (r : Result) (why : RefusalReason) (ws : List Word) :
    t.respond code r why ws = { s with
      routes := t.routes, talks := t.talks, outTalks := t.outTalks, listens := t.listens
      sched := { s.sched with notes := t.sched.notes }, counters := t.counters, events := t.events
      response := some ⟨code, r, why, ws⟩, selected := true, frameReply := s.response } := by
  obtain ⟨h1, h2, h3, h4, h5, h6, h7, h8, hqueues, hlast, h9, h10, h11, h12, h13, h14, h15⟩ := h
  obtain ⟨_, _, _, _, _, _, _, _, _, _, _, ⟨_, _, _⟩, _, _, _, _, _, _, _, _, _, _⟩ := t
  simp only at h1 h2 h3 h4 h5 h6 h7 h8 hqueues hlast h9 h10 h11 h12 h13 h14 h15
  subst h1 h2 h3 h4 h5 h6 h7 h8 hqueues hlast h9 h10 h11 h12 h13 h14 h15
  rfl

theorem State.setOut_outTalks_self (s : State) (n : TalkNo) (o : Option OutTalk) : (s.setOut n o).outTalks[n] = o :=
  vector_set_getElem_self ..

/-! ### Where a TALK and a TALK-END go (R73) -/

theorem State.ownStation_of_some (h : s.cfg.number = some own) : s.ownStation = own := by
  rw [State.ownStation, h]
  rfl

theorem State.requestOf_of_some (h : s.cfg.number = some own) (n : TalkNo) (x : OutTalk) :
    s.requestOf n x = ⟨own, n, ⟨own, ⟨x.source.val, by omega⟩⟩, x.cls, x.intr⟩ := by
  rw [State.requestOf, State.ownStation_of_some h]

theorem State.toRing_of_own (h : s.cfg.number = some own) (b : NoteBody) : s.toRing own b = s := if_pos h.symm

theorem State.toRing_of_peer {st : Station} (h : s.cfg.number = some own) (hne : st ≠ own) (b : NoteBody) :
    s.toRing st b = s.hand ⟨st, b⟩ := if_neg (by
  rw [h]
  exact fun heq => hne (Option.some.inj heq))

theorem State.direct_of_own (h : s.cfg.number = some own) : s.direct own = true := by
  simp [State.direct, h]

theorem State.direct_of_all {st : Station} (h : st.val = 63) : s.direct st = true := by
  simp [State.direct, h]

theorem State.direct_of_peer {st : Station} (h : s.cfg.number = some own) (h63 : st.val ≠ 63) (hne : st ≠ own) :
    s.direct st = false := by
  simp [State.direct, h, h63, hne]

/-- The TALK note of a record. -/
def OutTalk.talkNote (x : OutTalk) (n : TalkNo) (own : Station) : Note :=
  ⟨x.target.station, .talk n ⟨own, ⟨x.source.val, by omega⟩⟩ x.cls x.intr x.target.kind x.target.value⟩

section
variable (hown : s.cfg.number = some own)
include hown

theorem State.sendTalk_of_peer (h63 : x.target.station.val ≠ 63) (hne : x.target.station ≠ own) :
    s.sendTalk n x = s.hand (x.talkNote n own) := by
  unfold State.sendTalk
  rw [s.requestOf_of_some hown, State.direct_of_peer hown h63 hne]
  exact State.toRing_of_peer hown hne _

theorem State.sendTalk_of_own (h63 : own.val ≠ 63) (ht : x.target.station = own) : s.sendTalk n x =
    s.takeTalk false ⟨own, n, ⟨own, ⟨x.source.val, by omega⟩⟩, x.cls, x.intr⟩ x.target.kind x.target.value := by
  unfold State.sendTalk
  dsimp only
  rw [s.requestOf_of_some hown, ht, State.direct_of_own hown, if_pos rfl, beq_eq_false_iff_ne.2 h63]
  refine State.toRing_of_own ?_ _
  rw [(State.takeTalk_tablesStep _ _ _ _ _).cfg, hown]

theorem State.sendTalk_of_all (h63 : own.val ≠ 63) (ht : x.target.station.val = 63) : s.sendTalk n x =
    (s.takeTalk true ⟨own, n, ⟨own, ⟨x.source.val, by omega⟩⟩, x.cls, x.intr⟩ x.target.kind x.target.value).hand
      (x.talkNote n own) := by
  have hall : (x.target.station.val == 63) = true := beq_iff_eq.2 ht
  unfold State.sendTalk
  dsimp only
  rw [s.requestOf_of_some hown, State.direct_of_all ht, if_pos rfl, hall]
  refine State.toRing_of_peer (own := own) ?_ (fun heq => h63 (heq ▸ ht)) _
  rw [(State.takeTalk_tablesStep _ _ _ _ _).cfg, hown]

/-- A TALK by the target of the record: a peer, the own arbiter, or both (R73). -/
theorem State.sendTalk_by_target (n : TalkNo) (x : OutTalk) :
    let q : TalkRequest := ⟨own, n, ⟨own, ⟨x.source.val, by omega⟩⟩, x.cls, x.intr⟩
    (x.target.station.val ≠ 63 → x.target.station ≠ own → s.sendTalk n x = s.hand (x.talkNote n own)) ∧
    (own.val ≠ 63 → x.target.station = own → s.sendTalk n x = s.takeTalk false q x.target.kind x.target.value) ∧
    (own.val ≠ 63 → x.target.station.val = 63 →
      s.sendTalk n x = (s.takeTalk true q x.target.kind x.target.value).hand (x.talkNote n own)) :=
  ⟨s.sendTalk_of_peer hown, s.sendTalk_of_own hown, s.sendTalk_of_all hown⟩

theorem State.sendTalkEnd_of_peer (h63 : x.target.station.val ≠ 63) (hne : x.target.station ≠ own) :
    s.sendTalkEnd n x = s.hand ⟨x.target.station, .talkEnd n⟩ := by
  unfold State.sendTalkEnd
  rw [State.direct_of_peer hown h63 hne]
  exact State.toRing_of_peer hown hne _

theorem State.sendTalkEnd_of_own (ht : x.target.station = own) : s.sendTalkEnd n x = s.takeTalkEnd own n := by
  unfold State.sendTalkEnd
  dsimp only
  rw [s.ownStation_of_some hown, ht, State.direct_of_own hown, if_pos rfl]
  refine State.toRing_of_own ?_ _
  rw [(s.takeTalkEnd_tablesStep _ _).cfg, hown]

theorem State.sendTalkEnd_of_all (h63 : own.val ≠ 63) (ht : x.target.station.val = 63) :
    s.sendTalkEnd n x = (s.takeTalkEnd own n).hand ⟨x.target.station, .talkEnd n⟩ := by
  unfold State.sendTalkEnd
  dsimp only
  rw [s.ownStation_of_some hown, State.direct_of_all ht, if_pos rfl]
  refine State.toRing_of_peer (own := own) ?_ (fun heq => h63 (heq ▸ ht)) _
  rw [(s.takeTalkEnd_tablesStep _ _).cfg, hown]

end

/-! ### Creation (R71) -/

theorem OutTalk.fresh_eq (a : SourceNo) (b : TalkTarget) (c : Cls) (f : Bool) (o : Origin) (now : Nat) :
    OutTalk.fresh a b c f o now = ⟨a, b, c, f, o, [], 0, .pending, now, false, now + 1228800, false⟩ := by
  rw [OutTalk.fresh, ms_50]

theorem State.freeTalk_eq_none (h : ∀ n : TalkNo, s.outTalks[n] ≠ none) : s.freeTalk = none :=
  List.find?_eq_none.2 fun n _ => by
    rw [Option.isNone_iff_eq_none]
    exact h n

theorem State.freeTalk_eq_some (hn : s.outTalks[n] = none) (hlow : ∀ j < n, s.outTalks[j] ≠ none) :
    s.freeTalk = some n := by
  obtain ⟨as, bs, happend⟩ := List.append_of_mem (List.mem_finRange n)
  have hsorted := List.pairwise_lt_finRange 32
  rw [happend] at hsorted
  refine List.find?_eq_some_iff_append.2 ⟨Option.isNone_iff_eq_none.2 hn, as, bs, happend, fun j hj => ?_⟩
  have hfree := hlow j ((List.pairwise_append.1 hsorted).2.2 j hj n List.mem_cons_self)
  rw [Bool.not_eq_true', Option.isNone_eq_false_iff, Option.isSome_iff_ne_none]
  exact hfree

/-- The record that stands and its TALLY event, before its TALK is sent. -/
def State.withTalk (s : State) (n : TalkNo) (x : OutTalk) : State := { s with
  outTalks := s.outTalks.set n (some x)
  events := s.events.push (.tally n x.origin .pending false) }

theorem State.createTalk_eq (s : State) (n : TalkNo) (x : OutTalk) : s.createTalk n x = (s.withTalk n x).sendTalk n x := rfl

/-- What no reply changes of a record stands after any operation of the talker or the arbiter. -/
theorem State.ArbStep.exists_standing (h : s.ArbStep t) (hx : s.outTalks[n] = some x) :
    ∃ y, t.outTalks[n] = some y ∧ y.standing = x.standing := by
  have houts := h.outs n
  rw [hx, Option.map_some, Option.map_eq_some_iff] at houts
  exact houts

theorem OutTalk.fields_of_standing {x y : OutTalk} (h : y.standing = x.standing) :
    y.source = x.source ∧ y.target = x.target ∧ y.cls = x.cls ∧ y.intr = x.intr ∧ y.origin = x.origin ∧
    y.created = x.created ∧ y.refreshDue = x.refreshDue := by
  obtain ⟨_, _, _, _, _, _, _, _, _, _, _, _⟩ := x
  obtain ⟨_, _, _, _, _, _, _, _, _, _, _, _⟩ := y
  cases h
  exact ⟨rfl, rfl, rfl, rfl, rfl, rfl, rfl⟩

/-- The record that a creation leaves, and the events after its TALLY event. -/
theorem State.createTalk_spec (s : State) (n : TalkNo) (x : OutTalk) :
    (∃ y, (s.createTalk n x).outTalks[n] = some y ∧ y.standing = x.standing) ∧
    ∃ es : List Event, (s.createTalk n x).events = es.foldl EventQueue.push (s.events.push (.tally n x.origin .pending false)) := by
  have hstep := (State.sendTalk_tablesStep (s.withTalk n x) n x).toArbStep
  exact ⟨hstep.exists_standing (vector_set_getElem_self ..), hstep.events⟩

/-! ### Release (R75) -/

theorem State.releaseTalk_of_none (h : s.outTalks[n] = none) : s.releaseTalk n = s := by rw [State.releaseTalk, h]

theorem State.releaseTalk_of_some {told : State} {su : Summary} (hx : s.outTalks[n] = some x) (htold : s.sendTalkEnd n x = told)
    (hsu : ((told.outTalks[n]).map OutTalk.summary).getD x.summary = su) : s.releaseTalk n =
    { told with outTalks := told.outTalks.set n none, events := told.events.push (.tally n x.origin su true) } := by
  subst htold hsu
  rw [State.releaseTalk, hx]
  rfl

/-- A release frees the number and ends with its TALLY event. -/
theorem State.releaseTalk_spec (hx : s.outTalks[n] = some x) : (s.releaseTalk n).outTalks[n] = none ∧
    ∃ q su, (s.releaseTalk n).events = EventQueue.push q (.tally n x.origin su true) := by
  rw [State.releaseTalk_of_some hx rfl rfl]
  exact ⟨vector_set_getElem_self .., _, _, rfl⟩

/-- A release by the target of the record: a peer, the own arbiter, or both (R73, R75). -/
theorem State.releaseTalk_by_target (hx : s.outTalks[n] = some x) (hown : s.cfg.number = some own) :
    let heard := s.takeTalkEnd own n
    let summary := ((heard.outTalks[n]).map OutTalk.summary).getD x.summary
    let note : Note := ⟨x.target.station, .talkEnd n⟩
    let released := fun (u : State) (su : Summary) => s.releaseTalk n = { u with
      outTalks := u.outTalks.set n none
      events := u.events.push (.tally n x.origin su true) }
    (x.target.station.val ≠ 63 → x.target.station ≠ own → released (s.hand note) x.summary) ∧
    (own.val ≠ 63 → x.target.station = own → released heard summary) ∧
    (own.val ≠ 63 → x.target.station.val = 63 → released (heard.hand note) summary) := by
  refine ⟨fun h63 hne => State.releaseTalk_of_some hx (State.sendTalkEnd_of_peer hown h63 hne) ?_,
    fun _ ht => State.releaseTalk_of_some hx (State.sendTalkEnd_of_own hown ht) rfl,
    fun h63 ht => State.releaseTalk_of_some hx (State.sendTalkEnd_of_all hown h63 ht) ?_⟩
  · rw [(s.hand_listenStep _).outTalks, hx]
    rfl
  · rw [(State.hand_listenStep _ _).outTalks]

/-! ### The timers (R74, R79) -/

theorem State.exec_refreshTimer (hx : s.outTalks[n] = some x) : exec (.refreshTimerExpiry n) s =
    .next (((s.reach x.refreshDue).setOut n (some { x with refreshDue := x.refreshDue + 1228800 })).sendTalk n
      { x with refreshDue := x.refreshDue + 1228800 }) := by
  rw [exec, execRefreshTimerExpiry, hx, ms_50]

theorem State.exec_unansweredTimer {due : Nat} (hx : s.outTalks[n] = some x) (hran : x.answerTimerRan = false)
    (hdue : x.created + Config.ms 150 = due) : exec (.unansweredTimerExpiry n) s =
    .next (if x.replies.isEmpty && !x.heard then (s.reach due).putSummed n x.summary { x with answerTimerRan := true }
      else (s.reach due).setOut n (some { x with answerTimerRan := true })) := by
  rw [exec, execUnansweredTimerExpiry, hx]
  dsimp only
  rw [hran, hdue]
  exact congrArg _ (if_neg Bool.false_ne_true)

theorem State.reach_setOut (due : Nat) (o : Option OutTalk) :
    (s.reach due).setOut n o = { s.reach due with outTalks := s.outTalks.set n o } := rfl

/-- A record summed at a due time, its summary given. -/
theorem State.reach_putSummed {due : Nat} {before : Summary} {y : OutTalk} (h : x.summed = y) :
    (s.reach due).putSummed n before x = { s.reach due with
      outTalks := s.outTalks.set n (some y)
      events := if before = y.summary then s.events else s.events.push (.tally n y.origin y.summary false) } := by
  subst h
  rw [State.putSummed_eq]
  by_cases hsame : x.summed.summary = before
  · rw [if_pos hsame, if_pos hsame.symm]
    rfl
  · rw [if_neg hsame, if_neg (Ne.symm hsame)]
    rfl

end Sys2Proof.Machine

namespace Sys2Proof.Proofs

open Sys2Proof.Machine

/-- Settles O27: the lowest free number, and the target of the record. -/
theorem keyDownCreatesTalk : Obligations.KeyDownCreatesTalk := by
  intro s args k n own hmode hown hlength hk hn hlow
  have hexec : exec (.keyDown args) s = .next ((s.createTalk n (OutTalk.fresh k.source k.target k.cls k.intr .panel
      s.clock.now)).respond 0x02 .done .none [word n.val]) := by
    show Host.Outcome.next (s.configuredCommand codeKeyDown 7 args _) = _
    rw [State.configuredCommand_of_configured hmode hlength, hk]
    dsimp only
    rw [State.freeTalk_eq_some hn hlow]
    rfl
  rw [OutTalk.fresh_eq] at hexec
  generalize hx : (⟨k.source, k.target, k.cls, k.intr, .panel, [], 0, .pending, s.clock.now, false, s.clock.now + 1228800,
    false⟩ : OutTalk) = x at hexec
  obtain ⟨⟨y, hy, hstanding⟩, hevents⟩ := s.createTalk_spec n x
  obtain ⟨hsource, htarget, hcls, hintr, horigin, hcreated, hdue⟩ := OutTalk.fields_of_standing hstanding
  have answered : ∀ {u : State}, s.createTalk n x = u → exec (.keyDown args) s =
      .next (u.respond 0x02 .done .none [word n.val]) := fun hu => by rw [hexec, hu]
  obtain ⟨hpeer, hself, hall⟩ := State.sendTalk_by_target (s := s.withTalk n x) hown n x
  have hframe := (s.createTalk_talkStep n x).eq_respond 0x02 .done .none [word n.val]
  subst hx
  refine ⟨⟨_, y, hexec, rfl, hy, hsource, htarget, hcls, hintr, horigin, hcreated, hdue, hevents, hframe⟩,
    fun h63 hne => ?_, fun h63 ht => ?_, fun h63 ht => ?_⟩
  · exact answered (hpeer h63 hne)
  · exact answered (hself h63 ht)
  · exact answered (hall h63 ht)

/-- Settles O29: the release of a record by its target. -/
theorem keyUpReleasesTalk : Obligations.KeyUpReleasesTalk := by
  intro s hmode
  have hexec : ∀ n : TalkNo, exec (.keyUp [word n.val]) s = .next ((s.releaseTalk n).respond 0x03 .done .none []) := fun n => by
    have harg : argFin 32 [word n.val] 0 = some n :=
      argFin_of_arg_eq (word_toNat_of_lt (n.isLt.trans (by decide)))
    show Host.Outcome.next (s.configuredCommand codeKeyUp 1 [word n.val] _) = _
    rw [State.configuredCommand_of_configured (args := [word n.val]) (n := 1) hmode rfl, harg]
    rfl
  refine ⟨fun w hw => ?_, fun n => ⟨fun hn => ?_, fun x own hx hown => ⟨?_, hexec n, State.releaseTalk_by_target hx hown⟩⟩⟩
  · have harg : argFin 32 [w] 0 = none := argFin_of_le_arg hw
    show Host.Outcome.next (s.configuredCommand codeKeyUp 1 [w] _) = _
    rw [State.configuredCommand_of_configured (args := [w]) (n := 1) hmode rfl, harg]
    rfl
  · rw [hexec, State.releaseTalk_of_none hn]
  · obtain ⟨hfree, q, su, hevents⟩ := State.releaseTalk_spec hx
    exact ⟨_, q, su, hexec n, hfree, rfl, hevents, (s.releaseTalk_talkStep n).eq_respond 0x03 .done .none []⟩

/-- Settles O32: the TALK sent again, and the record that nothing has answered. -/
theorem outTalkTimersAct : Obligations.OutTalkTimersAct := by
  intro s n x own hx hown
  have hdue : x.created + Config.ms 150 = x.created + 3686400 := congrArg (x.created + ·) ms_150
  have hrefresh := State.exec_refreshTimer hx
  generalize hy : ({ x with refreshDue := x.refreshDue + 1228800 } : OutTalk) = y at hrefresh
  obtain ⟨hpeer, hself, hall⟩ := State.sendTalk_by_target (s := (s.reach x.refreshDue).setOut n (some y)) hown n y
  refine ⟨?_, ⟨fun h63 hne => ?_, fun h63 ht => ?_, fun h63 ht => ?_⟩, fun hran hempty hheard => ?_, fun hran hsome => ?_⟩
  · obtain ⟨z, hz, hstanding⟩ := (State.sendTalk_tablesStep ((s.reach x.refreshDue).setOut n (some y)) n y).toArbStep.exists_standing
      (State.setOut_outTalks_self ..)
    obtain ⟨hsource, htarget, hcls, hintr, horigin, hcreated, hagain⟩ := OutTalk.fields_of_standing hstanding
    subst hy
    exact ⟨_, z, hrefresh, hz, hagain, hsource, htarget, hcls, hintr, horigin, hcreated,
      (((s.reach x.refreshDue).setOut_talkStep _ _).trans (State.sendTalk_talkStep _ _ _)).eq⟩
  · subst hy
    exact hrefresh.trans (congrArg _ (hpeer h63 hne))
  · subst hy
    exact hrefresh.trans (congrArg _ (hself h63 ht))
  · subst hy
    exact hrefresh.trans (congrArg _ (hall h63 ht))
  · have hsummed : ({ x with answerTimerRan := true } : OutTalk).summed =
        { x with answerTimerRan := true, summary := .unanswered } := by
      rw [OutTalk.summed, hempty, hheard]
      rfl
    have hpending : (x.replies.isEmpty && !x.heard) = true := by rw [hempty, hheard]; rfl
    rw [State.exec_unansweredTimer hx hran hdue, if_pos hpending]
    exact congrArg _ (State.reach_putSummed hsummed)
  · have hanswered : ¬ (x.replies.isEmpty && !x.heard) = true := by
      rw [Bool.and_eq_true, List.isEmpty_iff, Bool.not_eq_true']
      exact fun h => hsome.elim (fun hne => hne h.1) fun hheard => Bool.false_ne_true (h.2.symm.trans hheard)
    rw [State.exec_unansweredTimer hx hran hdue, if_neg hanswered, State.reach_setOut]

end Sys2Proof.Proofs

/-!
SUPPORT. Field words and port timers as equations: what a port hears, moves to and is idled to (R161 to R174).
-/

namespace Sys2Proof.Machine

variable {s u : State} {k : PortNo} {p q : Port}

/-! ### Ports -/

/-- A port whose link silence timer has just been started again (R161). -/
def Port.heardAt (p : Port) (now : Nat) : Port := { p with silenceDue := some (now + 491520) }

theorem State.setPort_setPort (s : State) (k : PortNo) (p q : Port) : (s.setPort k p).setPort k q = s.setPort k q :=
  congrArg (fun v => { s with ports := v }) (Vector.set_set ..)

/-- What any word does first, at a port that is not DISABLED (R161). -/
theorem State.takeWord_of_ne (hp : s.ports[k] = p) (h : p.state ≠ .disabled) (own : State → Port → State) :
    s.takeWord k own = own (s.setPort k (p.heardAt s.clock.now)) (p.heardAt s.clock.now) := by
  unfold State.takeWord
  dsimp only
  rw [hp, if_neg h, ms_20]
  rfl

theorem State.takeWord_of_disabled (hp : s.ports[k] = p) (h : p.state = .disabled) (own : State → Port → State) :
    s.takeWord k own = s := by
  unfold State.takeWord
  dsimp only
  rw [hp]
  exact if_pos h

/-- A port that moves, with its FIELD event (R173). -/
theorem State.movePort_setPort (s : State) (k : PortNo) (p q : Port) (f : PortFault) : (s.setPort k p).movePort k q f =
    { s with
      ports := s.ports.set k q
      events := s.events.push (.field k p.state q.state f q.idResult q.failures q.interval s.audio.blockCounter) } := by
  unfold State.movePort
  rw [State.setPort_setPort, State.setPort_ports, vector_set_getElem_self]
  rfl

theorem State.movePort_of (hp : s.ports[k] = p) (q : Port) (f : PortFault) : s.movePort k q f = { s with
    ports := s.ports.set k q
    events := s.events.push (.field k p.state q.state f q.idResult q.failures q.interval s.audio.blockCounter) } := by
  subst hp
  rfl

theorem State.toIdle_of_not_admitted (h : q.state.admitted = false) (s : State) (k : PortNo) (f : PortFault) :
    s.toIdle k q f = s.movePort k (q.idled f) f := by
  unfold State.toIdle
  dsimp only
  rw [h]
  exact if_neg Bool.false_ne_true

/-- A word that breaks a training or a check (R163, R165). -/
theorem State.breakTraining_setPort (h : p.state.admitted = false) : (s.setPort k p).breakTraining k p = { s with
    ports := s.ports.set k (p.idled .trainBroken)
    events := s.events.push
      (.field k p.state .idle .trainBroken .notVerified p.failures p.interval s.audio.blockCounter) } :=
  (State.toIdle_of_not_admitted h _ k _).trans (s.movePort_setPort k p _ _)

/-! ### Words -/

theorem bits_marker (w : Word) : bits w 28 4 = w.toNat / 268435456 := by
  have hlt := w.isLt
  unfold bits
  omega

theorem fieldCommand_other (k : PortNo) (w : Word) (h : w.toNat / 268435456 < 16)
    (h7 : w.toNat / 268435456 = 0 ∨ 7 ≤ w.toNat / 268435456) :
    fieldCommand k w = .idleWord k ⟨w.toNat / 268435456, h⟩ := by
  unfold fieldCommand
  rw [bits_marker]
  generalize w.toNat / 268435456 = marker at h h7 ⊢
  dsimp only
  split
  case h_7 => exact congrArg _ (Fin.ext (Nat.mod_eq_of_lt h))
  all_goals omega

/-- What a word does at a port that has heard it. -/
theorem State.word_of (hp : s.ports[k] = p) (h : p.state ≠ .disabled) {own : State → Port → State} {t : State}
    (hown : own (s.setPort k (p.heardAt s.clock.now)) (p.heardAt s.clock.now) = t) :
    (Host.Outcome.next (s.takeWord k own) : Host.Outcome State Fault Refusal) = .next t :=
  congrArg _ ((State.takeWord_of_ne hp h own).trans hown)

/-- A word that does nothing more at a port than be heard. -/
theorem State.heard_of (hp : s.ports[k] = p) (h : p.state ≠ .disabled) {own : State → Port → State}
    (hown : own (s.setPort k (p.heardAt s.clock.now)) (p.heardAt s.clock.now) = s.setPort k (p.heardAt s.clock.now)) :
    (Host.Outcome.next (s.takeWord k own) : Host.Outcome State Fault Refusal) =
      .next { s with ports := s.ports.set k (p.heardAt s.clock.now) } := State.word_of hp h hown

/-- A word that breaks a training or a check outside the admitted states. -/
theorem State.broken_of (hp : s.ports[k] = p) (h : p.state ≠ .disabled) (hout : p.state.admitted = false)
    {own : State → Port → State} (hown : own (s.setPort k (p.heardAt s.clock.now)) (p.heardAt s.clock.now) =
      (s.setPort k (p.heardAt s.clock.now)).breakTraining k (p.heardAt s.clock.now)) :
    (Host.Outcome.next (s.takeWord k own) : Host.Outcome State Fault Refusal) = .next { s with
      ports := s.ports.set k ((p.heardAt s.clock.now).idled .trainBroken)
      events := s.events.push
        (.field k p.state .idle .trainBroken .notVerified p.failures p.interval s.audio.blockCounter) } :=
  State.word_of hp h (hown.trans (State.breakTraining_setPort (p := p.heardAt _) hout))

/-! ### Training (R162 to R164) -/

theorem State.startTraining_setPort (s : State) (k : PortNo) (p q : Port) (st : PortState) :
    (s.setPort k p).startTraining k q st = { s with
      ports := s.ports.set k
        { q with state := st, stamps := [s.clock.stampCounter], gapDue := some (s.clock.now + 245760) }
      events := s.events.push (.field k p.state st .none q.idResult q.failures q.interval s.audio.blockCounter) } := by
  rw [State.startTraining, ms_10, State.movePort_setPort]
  rfl

/-- A port with one stamp more (R163). -/
def Port.stamped (p : Port) (c : Clock) : Port :=
  { p with stamps := p.stamps ++ [c.stampCounter], gapDue := some (c.now + 245760) }

theorem State.nextStamp_eq (s : State) (k : PortNo) (p : Port) : s.nextStamp k p =
    if p.stamps.length < 16 then s.setPort k (p.stamped s.clock) else s.completeTraining k (p.stamped s.clock) := by
  rw [State.nextStamp, ms_10]
  by_cases h : p.stamps.length < 16
  · rw [if_pos h]
    exact if_neg (by rw [List.length_append]; exact Nat.not_le.2 (Nat.succ_lt_succ h))
  · rw [if_neg h]
    exact if_pos (by rw [List.length_append]; exact Nat.succ_le_succ (Nat.not_lt.1 h))

/-- A TRAIN word of a training or a retraining. -/
theorem State.exec_nextStamp (hp : s.ports[k] = p) (h : p.state = .training ∨ p.state = .retraining) :
    exec (.trainWord k) s = .next (if p.stamps.length < 16 then
        (s.setPort k (p.heardAt s.clock.now)).setPort k ((p.heardAt s.clock.now).stamped s.clock)
      else (s.setPort k (p.heardAt s.clock.now)).completeTraining k ((p.heardAt s.clock.now).stamped s.clock)) := by
  refine State.word_of hp (by rcases h with h | h <;> rw [h] <;> nofun) ?_
  have hstate : (p.heardAt s.clock.now).state = p.state := rfl
  rw [hstate]
  rcases h with h | h <;> rw [h] <;> exact State.nextStamp_eq ..

theorem trainingFault_ne_none {l : List Stamp} {f : PortFault} (h : trainingFault l = some f) : f ≠ .none := by
  unfold trainingFault at h
  dsimp only at h
  split at h
  · cases h
    nofun
  · split at h
    · cases h
      nofun
    · cases h

/-- The port that a fault idles (R163 to R174). -/
theorem Port.idled_of_ne {f : PortFault} (h : f ≠ .none) (p : Port) : p.idled f = { p with
    state := .idle, idResult := .notVerified, lastFault := f
    stamps := [], codes := [], gapDue := none, codeDue := none, holdoffDue := none
    elastic := [], phaseIn := 0, lastIn := 0, progress := [], completed := Block.silence
    outbound := [], phaseOut := 0, lastOut := 0 } := if_neg h

theorem State.completeTraining_of_fault {f : PortFault} (h : trainingFault p.stamps = some f) :
    s.completeTraining k p = s.toIdle k p f := by
  rw [State.completeTraining, h]

section
variable (h : trainingFault p.stamps = none)
include h

theorem State.completeTraining_of_retraining (hst : p.state = .retraining) : s.completeTraining k p =
    s.movePort k (p.trainedTo (trainedInterval p.stamps)).settle .none := by
  rw [State.completeTraining, h]
  exact if_pos hst

theorem State.completeTraining_of_open (hst : p.state = .training) (ha : p.access = 0) : s.completeTraining k p =
    s.movePort k ({ p.trainedTo (trainedInterval p.stamps) with idResult := .verified, failures := 0 } : Port).settle .none := by
  rw [State.completeTraining, h]
  exact (if_neg (by rw [hst]; nofun)).trans (if_pos ha)

theorem State.completeTraining_of_coded (hst : p.state = .training) (ha : p.access ≠ 0) : s.completeTraining k p =
    s.movePort k { p.trainedTo (trainedInterval p.stamps) with
      state := .checking, codes := [], codeDue := some (s.clock.now + 1228800) } .none := by
  rw [State.completeTraining, h, ms_50]
  exact (if_neg (by rw [hst]; nofun)).trans (if_neg ha)

end

/-! ### The access code (R165 to R167) -/

theorem Port.idled_state (p : Port) (f : PortFault) : (p.idled f).state = .idle := by cases f <;> rfl

theorem Port.idled_idResult (p : Port) (f : PortFault) : (p.idled f).idResult = .notVerified := by cases f <;> rfl

theorem Port.idled_failures (p : Port) (f : PortFault) : (p.idled f).failures = p.failures := by cases f <;> rfl

theorem Port.idled_interval (p : Port) (f : PortFault) : (p.idled f).interval = p.interval := by cases f <;> rfl

/-- Any entry to IDLE from outside the admitted states. -/
theorem State.toIdle_of {f : PortFault} (hp : u.ports[k] = p) (hq : q.state.admitted = false) : u.toIdle k q f = { u with
    ports := u.ports.set k (q.idled f)
    events := u.events.push (.field k p.state .idle f .notVerified q.failures q.interval u.audio.blockCounter) } := by
  rw [State.toIdle_of_not_admitted hq, State.movePort_of hp, Port.idled_state, Port.idled_idResult, Port.idled_failures,
    Port.idled_interval]

/-- A CODE word of a check. -/
theorem State.exec_codeWord {x : Sample} (hp : s.ports[k] = p) (h : p.state = .checking) : exec (.codeWord k x) s =
    .next (if p.codes.length < 2 then (s.setPort k (p.heardAt s.clock.now)).setPort k
        { p.heardAt s.clock.now with codes := p.codes ++ [x.setWidth 16] }
      else (s.setPort k (p.heardAt s.clock.now)).compareCode k
        { p.heardAt s.clock.now with codes := p.codes ++ [x.setWidth 16] }) := by
  refine State.word_of hp (by rw [h]; nofun) ?_
  have hstate : (p.heardAt s.clock.now).state = p.state := rfl
  rw [hstate, h]
  by_cases hlength : p.codes.length < 2
  · rw [if_pos hlength]
    exact if_neg (by rw [List.length_append]; exact Nat.not_le.2 (Nat.succ_lt_succ hlength))
  · rw [if_neg hlength]
    exact if_pos (by rw [List.length_append]; exact Nat.succ_le_succ (Nat.not_lt.1 hlength))

theorem State.compareCode_of_eq (h : codeOf q.codes = q.access) : (s.setPort k p).compareCode k q = { s with
    ports := s.ports.set k ({ q with idResult := .verified, failures := 0 } : Port).settle
    events := s.events.push (.field k p.state .settling .none .verified 0 q.interval s.audio.blockCounter) } :=
  (if_pos h).trans (State.movePort_setPort ..)

theorem State.compareCode_of_ne (h : codeOf q.codes ≠ q.access) (hf : q.failures + 1 < 3) (hq : q.state.admitted = false) :
    (s.setPort k p).compareCode k q = { s with
      ports := s.ports.set k (({ q with failures := q.failures + 1 } : Port).idled .codeMismatch)
      events := s.events.push
        (.field k p.state .idle .codeMismatch .notVerified (q.failures + 1) q.interval s.audio.blockCounter) } := by
  rw [State.compareCode, if_neg h, if_pos hf, State.toIdle_of_not_admitted (q := { q with failures := q.failures + 1 }) hq,
    State.movePort_setPort]
  rfl

theorem State.compareCode_of_third (h : codeOf q.codes ≠ q.access) (hf : ¬ q.failures + 1 < 3) :
    (s.setPort k p).compareCode k q = { s with
      ports := s.ports.set k { q with
        state := .holdoff, idResult := .mismatch, failures := 3, codeDue := none, lastFault := .codeMismatch
        holdoffDue := some (s.clock.now + 49152000) }
      events := s.events.push (.field k p.state .holdoff .codeMismatch .mismatch 3 q.interval s.audio.blockCounter) } := by
  rw [State.compareCode, ms_2000, if_neg h, if_neg hf, State.movePort_setPort, State.setPort_clock]
  rfl

end Sys2Proof.Machine

namespace Sys2Proof.Proofs

open Sys2Proof.Machine

/-- Settles O40: the port that the word names, outside the admitted states. -/
theorem fieldResetIdlesPort : Obligations.FieldResetIdlesPort := by
  refine fun s hmode => ⟨fun w hw => ?_, fun k => ?_⟩
  · have harg : argFin 8 [w] 0 = none := argFin_of_le_arg hw
    show Host.Outcome.next (s.configuredCommand codeFieldReset 1 [w] _) = _
    rw [State.configuredCommand_of_configured (args := [w]) (n := 1) hmode rfl, harg]
    rfl
  · have harg : argFin 8 [word k.val] 0 = some k :=
      argFin_of_arg_eq (word_toNat_of_lt (k.isLt.trans (by decide)))
    refine ⟨fun hdisabled => ?_, fun hstate => ?_⟩
    · show Host.Outcome.next (s.configuredCommand codeFieldReset 1 [word k.val] _) = _
      rw [State.configuredCommand_of_configured (args := [word k.val]) (n := 1) hmode rfl, harg]
      exact congrArg _ (if_pos hdisabled)
    · have hne : s.ports[k].state ≠ .disabled := by rcases hstate with h | h | h | h <;> rw [h] <;> nofun
      have hadmitted : s.ports[k].state.admitted = false := by rcases hstate with h | h | h | h <;> rw [h] <;> rfl
      show Host.Outcome.next (s.configuredCommand codeFieldReset 1 [word k.val] _) = _
      rw [State.configuredCommand_of_configured (args := [word k.val]) (n := 1) hmode rfl, harg]
      refine congrArg _ ((if_neg hne).trans ?_)
      rw [State.toIdle_of_not_admitted (q := { s.ports[k] with failures := 0 }) hadmitted]
      rfl

/-- Settles O42: each state of the port with each word that does no more there than break it or be heard. -/
theorem wordsByStateOfPort : Obligations.WordsByStateOfPort := by
  intro s k x i
  generalize hp : s.ports[k] = p
  refine ⟨fun w => ?_, fun h => ?_, fun h => ?_, fun h => ?_, fun h => ⟨?_, ?_⟩, fun h => ?_, fun h => ?_, fun h => ?_⟩
  · have hcommand : ∀ {c : Instr}, fieldCommand k w = c → s.withFieldWord k w = { s with pending := s.pending ++ [c] } :=
      fun hc => by rw [State.withFieldWord, hc]
    refine ⟨fun h => hcommand ?_, fun h => hcommand ?_, fun h => hcommand ?_, fun h => hcommand ?_, fun h => hcommand ?_,
      fun h => hcommand ?_, fun h => hcommand ?_, fun hlt h => hcommand (fieldCommand_other k w hlt (.inr h))⟩
    · exact (fieldCommand_other k w (by omega) (.inl h)).trans (congrArg _ (Fin.ext h))
    all_goals
      rw [fieldCommand, bits_marker, h]
      rfl
  all_goals
    obtain ⟨state, _, _, _, _, _, _, _, _, _, _, _, _, _, _, _, _, _, _, _, _, _, _, _, _, _, _, _, _⟩ := p
    simp only at h
    subst h
  · have hnone : ∀ own : State → Port → State, (Host.Outcome.next (s.takeWord k own) : Host.Outcome State Fault Refusal) =
        .next s := fun own => congrArg _ (State.takeWord_of_disabled hp rfl own)
    intro c hc
    simp only [List.mem_cons, List.not_mem_nil, or_false] at hc
    rcases hc with rfl | rfl | rfl | rfl | rfl | rfl | rfl <;> exact hnone _
  · intro c hc
    simp only [List.mem_cons, List.not_mem_nil, or_false] at hc
    rcases hc with rfl | rfl | rfl | rfl | rfl | rfl <;> exact State.heard_of hp nofun rfl
  · intro c hc
    simp only [List.mem_cons, List.not_mem_nil, or_false] at hc
    rcases hc with rfl | rfl | rfl | rfl | rfl | rfl <;> exact State.broken_of hp nofun rfl rfl
  · exact State.heard_of hp nofun rfl
  · intro c hc
    simp only [List.mem_cons, List.not_mem_nil, or_false] at hc
    rcases hc with rfl | rfl | rfl | rfl | rfl <;> exact State.broken_of hp nofun rfl rfl
  · intro c hc
    simp only [List.mem_cons, List.not_mem_nil, or_false] at hc
    rcases hc with rfl | rfl | rfl | rfl | rfl | rfl | rfl <;> exact State.heard_of hp nofun rfl
  · intro c hc
    simp only [List.mem_cons, List.not_mem_nil, or_false] at hc
    rcases hc with rfl | rfl | rfl <;> exact State.heard_of hp nofun rfl
  · intro c hc
    simp only [List.mem_cons, List.not_mem_nil, or_false] at hc
    rcases hc with rfl | rfl <;> exact State.heard_of hp nofun rfl

/-- Settles O43: the first stamp, a further one, and the seventeenth with its tests. -/
theorem trainWordsTakeStamps : Obligations.TrainWordsTakeStamps := by
  intro s k
  generalize hp : s.ports[k] = p
  refine ⟨fun h => ?_, fun h => ?_, fun h => ?_, fun h hlength => ?_, fun hlength => ⟨fun h f hf => ?_, fun h hf haccess => ?_,
    fun h hf haccess => ?_, fun h hf => ?_⟩⟩
  · obtain ⟨state, _, _, _, _, _, _, _, _, _, _, _, _, _, _, _, _, _, _, _, _, _, _, _, _, _, _, _, _⟩ := p
    simp only at h
    subst h
    exact State.word_of hp nofun (State.startTraining_setPort ..)
  · obtain ⟨state, _, _, _, _, _, _, _, _, _, _, _, _, _, _, _, _, _, _, _, _, _, _, _, _, _, _, _, _⟩ := p
    simp only at h
    subst h
    exact State.word_of hp nofun (State.startTraining_setPort ..)
  · obtain ⟨state, _, _, _, _, _, _, _, _, _, _, _, _, _, _, _, _, _, _, _, _, _, _, _, _, _, _, _, _⟩ := p
    simp only at h
    subst h
    exact State.word_of hp nofun (State.startTraining_setPort ..)
  · rw [State.exec_nextStamp hp h, if_pos hlength]
    exact congrArg _ (State.setPort_setPort ..)
  · rw [State.exec_nextStamp hp (.inl h), if_neg (by omega), State.completeTraining_of_fault hf,
      State.toIdle_of_not_admitted (q := (p.heardAt s.clock.now).stamped s.clock) (show p.state.admitted = false by rw [h]; rfl), State.movePort_setPort,
      Port.idled_of_ne (trainingFault_ne_none hf)]
    rfl
  · rw [State.exec_nextStamp hp (.inl h), if_neg (by omega),
      State.completeTraining_of_open (p := (p.heardAt _).stamped s.clock) hf h haccess, State.movePort_setPort]
    rfl
  · rw [State.exec_nextStamp hp (.inl h), if_neg (by omega),
      State.completeTraining_of_coded (p := (p.heardAt _).stamped s.clock) hf h haccess, State.movePort_setPort]
    rfl
  · rw [State.exec_nextStamp hp (.inr h), if_neg (by omega),
      State.completeTraining_of_retraining (p := (p.heardAt _).stamped s.clock) hf h, State.movePort_setPort]
    rfl

/-- Settles O45: the code words by their number and the comparison, and each timer by what it finds. -/
theorem codeWordsAndTrainingTimers : Obligations.CodeWordsAndTrainingTimers := by
  intro s k x
  generalize hp : s.ports[k] = p
  refine ⟨fun h => ⟨fun hlength => ?_, fun a b hab => ?_, fun due hdue => ?_⟩, fun h due hdue => ?_, fun h due hdue => ?_,
    fun hdue => ?_, fun hdue => ?_, fun hdue => ?_, fun hsettling hlive => ?_⟩
  · rw [State.exec_codeWord hp h, if_pos hlength]
    exact congrArg _ (State.setPort_setPort ..)
  · have hexec := (State.exec_codeWord (x := x) hp h).trans (congrArg Host.Outcome.next
      (if_neg (by rw [hab]; exact Nat.lt_irrefl 2)))
    rw [hab] at hexec
    refine ⟨fun hcode => hexec.trans (congrArg _ ?_), fun hcode hfailures => hexec.trans (congrArg _ ?_),
      fun hcode hfailures => hexec.trans (congrArg _ ?_)⟩
    · exact State.compareCode_of_eq (q := { p.heardAt s.clock.now with codes := [a, b] ++ [x.setWidth 16] }) hcode
    · exact State.compareCode_of_ne (q := { p.heardAt s.clock.now with codes := [a, b] ++ [x.setWidth 16] }) hcode
        (Nat.succ_lt_succ hfailures) (show p.state.admitted = false by rw [h]; rfl)
    · exact State.compareCode_of_third (q := { p.heardAt s.clock.now with codes := [a, b] ++ [x.setWidth 16] }) hcode
        (by show ¬ p.failures + 1 < 3; omega)
  · show exec (.codeTimerExpiry k) s = .next _
    rw [exec, execCodeTimerExpiry, hp, hdue]
    dsimp only
    rw [if_pos h, State.toIdle_of (u := s.reach due) hp (by rw [h]; rfl)]
    rfl
  · show exec (.gapTimerExpiry k) s = .next _
    rw [exec, execGapTimerExpiry, hp, hdue]
    dsimp only
    rw [if_pos (.inl h), State.toIdle_of (u := s.reach due) hp (by rw [h]; rfl)]
    rfl
  · show exec (.holdoffExpiry k) s = .next _
    rw [exec, execHoldoffExpiry, hp, hdue]
    dsimp only
    rw [if_pos h, State.toIdle_of (u := s.reach due) (q := { p with failures := 0 }) hp (show p.state.admitted = false by rw [h]; rfl)]
    rfl
  · rw [exec, execGapTimerExpiry, hp, hdue]
  · rw [exec, execCodeTimerExpiry, hp, hdue]
  · rw [exec, execHoldoffExpiry, hp, hdue]
  · rw [exec, execLinkSilenceExpiry, hp]
    cases p.silenceDue with
    | none => rfl
    | some due => exact congrArg _ (if_neg (not_or.2 ⟨hsettling, hlive⟩))

end Sys2Proof.Proofs

/-!
SUPPORT. The arithmetic of samples and of a training, and the converters of a port (R25 to R30, R160, R164, R178 to R184).
-/

namespace Sys2Proof.Machine

/-! ### Samples -/

theorem sample_toInt_bounds (x : Sample) : -8388608 ≤ x.toInt ∧ x.toInt ≤ 8388607 := by
  have hle := natAbs_sample_toInt_le x
  have hlt := x.toInt_lt (w := 24)
  omega

theorem toInt_ofInt_sample {v : Int} (hlo : -8388608 ≤ v) (hhi : v ≤ 8388607) : (BitVec.ofInt 24 v).toInt = v := by
  rw [BitVec.toInt_ofInt]
  exact Int.bmod_eq_of_le (by omega) (by omega)

/-- A value between two samples is the sample of its own value. -/
theorem toInt_ofInt_between {v : Int} {a b : Sample} (hlo : min a.toInt b.toInt ≤ v) (hhi : v ≤ max a.toInt b.toInt) :
    (BitVec.ofInt 24 v).toInt = v := by
  have ha := sample_toInt_bounds a
  have hb := sample_toInt_bounds b
  exact toInt_ofInt_sample (by omega) (by omega)

theorem clipFlag_iff (v : Int) (lo hi : Sample) :
    (clipFlag v lo hi = .inside ↔ v ≤ hi.toInt ∧ lo.toInt ≤ v) ∧ (clipFlag v lo hi = .high ↔ hi.toInt < v ∧ lo.toInt ≤ v) ∧
    (clipFlag v lo hi = .low ↔ v ≤ hi.toInt ∧ v < lo.toInt) ∧ (clipFlag v lo hi = .wrong ↔ hi.toInt < v ∧ v < lo.toInt) := by
  unfold clipFlag
  split <;> split <;> simp only [true_iff, false_iff, reduceCtorEq] <;> omega

theorem clipped_of_inside {v : Int} {lo hi : Sample} (h : clipFlag v lo hi = .inside) : (clipped v lo hi).toInt = v := by
  obtain ⟨hhi, hlo⟩ := (clipFlag_iff v lo hi).1.1 h
  rw [clipped, h]
  exact toInt_ofInt_between (a := lo) (b := hi) (by omega) (by omega)

/-- A clipped value lies between the limits, whatever their order. -/
theorem clipped_between (v : Int) (lo hi : Sample) :
    min lo.toInt hi.toInt ≤ (clipped v lo hi).toInt ∧ (clipped v lo hi).toInt ≤ max lo.toInt hi.toInt := by
  cases h : clipFlag v lo hi with
  | inside =>
    obtain ⟨hhi, hlo⟩ := (clipFlag_iff v lo hi).1.1 h
    rw [clipped_of_inside h]
    omega
  | high | low | wrong =>
    rw [clipped, h]
    dsimp only
    omega

theorem headroomShift_eq (a : Int) (h : Fin 4) : headroomShift a h = (a + 2 ^ (14 - h.val)) / 2 ^ (15 - h.val) := by
  have hexp : 15 - h.val - 1 = 14 - h.val := by omega
  rw [headroomShift, roundHalfUp, hexp]

theorem trimmed_eq (v : Int) (k : Nat) : trimmed v k = (v * (32768 - 4096 * (k : Int)) + 16384) / 32768 := rfl

theorem trimmed_natAbs_le (v : Int) {k : Nat} (h : k ≤ 7) : (trimmed v k).natAbs ≤ v.natAbs := by
  rw [trimmed_eq]
  interval_cases k <;> omega

/-- Every sample has one flag. -/
theorem countP_clipFlag {α : Type} (f : α → ClipFlag) (l : List α) :
    l.countP (fun x => f x = .inside) + l.countP (fun x => f x = .high) + l.countP (fun x => f x = .low) +
      l.countP (fun x => f x = .wrong) = l.length := by
  induction l with
  | nil => rfl
  | cons x l ih =>
    simp only [List.countP_cons, List.length_cons]
    cases f x <;> simp <;> omega

/-! ### Interpolation (R179) -/

/-- A value between two samples at a phase, rounded half up, stays between them. -/
theorem interpolated_between (a d : Int) {f : Nat} (hf : f < 65536) :
    min a (a + d) ≤ a + (d * (f : Int) + 32768) / 65536 ∧ a + (d * (f : Int) + 32768) / 65536 ≤ max a (a + d) := by
  obtain hd | hd := le_total 0 d
  · have hlow : 0 ≤ d * (f : Int) := Int.mul_nonneg hd (by omega)
    have hhigh : d * (f : Int) ≤ d * 65535 := Int.mul_le_mul_of_nonneg_left (by omega) hd
    omega
  · have hlow : d * 65535 ≤ d * (f : Int) := Int.mul_le_mul_of_nonpos_left hd (by omega)
    have hhigh : d * (f : Int) ≤ 0 := Int.mul_nonpos_of_nonpos_of_nonneg hd (by omega)
    omega

theorem interpolate_toInt (a b : Sample) {f : Nat} (hf : f < 65536) :
    (interpolate a b f).toInt = a.toInt + ((b.toInt - a.toInt) * (f : Int) + 32768) / 65536 := by
  have hbetween := interpolated_between a.toInt (b.toInt - a.toInt) hf
  rw [add_sub_cancel] at hbetween
  exact toInt_ofInt_between hbetween.1 hbetween.2

/-! ### The converters (R178 to R184) -/

theorem sampleFieldWord_eq (x : Sample) : sampleFieldWord x = 0x10#8 ++ x := rfl

theorem Port.produce_eq (p : Port) (y : Sample) : p.produce y =
    { (if p.progress.length < 47 then { p with progress := p.progress ++ [y] }
        else { p with progress := [], completed := Vector.ofFn fun n => (p.progress ++ [y]).getD n.val 0 }) with lastIn := y } := by
  unfold Port.produce
  dsimp only
  by_cases h : p.progress.length < 47
  · rw [if_pos h, if_neg (by rw [List.length_append]; exact Nat.not_le.2 (Nat.succ_lt_succ h))]
  · rw [if_neg h, if_pos (by rw [List.length_append]; exact Nat.succ_le_succ (Nat.not_lt.1 h))]

theorem Port.convertIn_eq {p : Port} {f : Nat} (hf : p.activeIn = some f) (a b : Sample) : p.convertIn a b =
    { (if p.progress.length < 47 then { p with progress := p.progress ++ [interpolate a b p.phaseIn] }
        else { p with
          progress := []
          completed := Vector.ofFn fun n => (p.progress ++ [interpolate a b p.phaseIn]).getD n.val 0 }) with
      lastIn := interpolate a b p.phaseIn
      phaseIn := (p.phaseIn + f) % 65536
      elastic := p.elastic.drop ((p.phaseIn + f) / 65536) } := by
  rw [Port.convertIn, Port.produce_eq, hf]
  split <;> rfl

theorem Port.convertOut_eq {p : Port} {g : Nat} (hg : p.activeOut = some g) (a b : Sample) : p.convertOut a b = { p with
    sent := some (0x10#8 ++ interpolate a b p.phaseOut), lastOut := interpolate a b p.phaseOut
    phaseOut := (p.phaseOut + g) % 65536
    outbound := p.outbound.drop ((p.phaseOut + g) / 65536) } := by
  rw [Port.convertOut, hg]
  rfl

/-- The last sample again joins the block in progress. -/
theorem Port.produce_lastIn (p : Port) : p.produce p.lastIn =
    if p.progress.length < 47 then { p with progress := p.progress ++ [p.lastIn] }
    else { p with progress := [], completed := Vector.ofFn fun n => (p.progress ++ [p.lastIn]).getD n.val 0 } := by
  rw [Port.produce_eq]
  split <;> rfl

section
variable {s : State} {k : PortNo} {p : Port} {x : Sample} (hp : s.ports[k] = p)
include hp

theorem State.exec_sampleWord (h : p.state = .settling ∨ p.state = .live) : exec (.sampleWord k x) s =
    .next ((s.setPort k (p.heardAt s.clock.now)).takeSample k (p.heardAt s.clock.now) x) := by
  refine State.word_of hp (by rcases h with h | h <;> rw [h] <;> nofun) ?_
  have hstate : (p.heardAt s.clock.now).state = p.state := rfl
  rw [hstate]
  rcases h with h | h <;> rw [h]

theorem State.exec_inboundMoment_of_two {a b : Sample} {rest : List Sample} (h : p.state = .live)
    (hbuffer : p.elastic = a :: b :: rest) : exec (.inboundSampleMoment k) s =
      .next ((s.reach (s.momentTime p.progress.length)).setPort k (p.convertIn a b)) := by
  rw [exec, execInboundSampleMoment, hp]
  dsimp only
  rw [if_pos h, hbuffer]

theorem State.exec_inboundMoment_of_few (h : p.state = .live) (hbuffer : p.elastic.length < 2) :
    exec (.inboundSampleMoment k) s = .next (((s.reach (s.momentTime p.progress.length)).setPort k
      (p.produce p.lastIn)).count Counters.incUnderrun) := by
  rw [exec, execInboundSampleMoment, hp]
  dsimp only
  rw [if_pos h]
  match hl : p.elastic, hbuffer with
  | [], _ => rfl
  | [_], _ => rfl

theorem State.exec_outboundRequest_of_two {a b : Sample} {rest : List Sample} (h : p.state = .live)
    (hbuffer : p.outbound = a :: b :: rest) :
    exec (.outboundWordRequest k) s = .next (s.setPort k (p.convertOut a b)) := by
  rw [exec, execOutboundWordRequest, hp]
  dsimp only
  rw [if_pos h, hbuffer]

theorem State.exec_outboundRequest_of_few (h : p.state = .live) (hbuffer : p.outbound.length < 2) :
    exec (.outboundWordRequest k) s = .next ((s.setPort k { p with sent := some (0x10#8 ++ p.lastOut) }).count
      Counters.incUnderrun) := by
  rw [exec, execOutboundWordRequest, hp]
  dsimp only
  rw [if_pos h]
  match hl : p.outbound, hbuffer with
  | [], _ => rfl
  | [_], _ => rfl

end

/-! ### The arithmetic of a training (R160, R164) -/

/-- The `j`-th interval of a list of stamps. -/
def stampInterval (stamps : List Stamp) (j : Nat) : Nat := (stamps.getD (j + 1) 0 - stamps.getD j 0).toNat

theorem intervals_eq : ∀ stamps : List Stamp,
    intervals stamps = (List.range (stamps.length - 1)).map (stampInterval stamps) := by
  intro stamps
  induction stamps with
  | nil => rfl
  | cons a l ih =>
    cases l with
    | nil => rfl
    | cons b l =>
      rw [intervals, ih]
      show _ = (List.range (l.length + 1)).map _
      rw [List.range_succ_eq_map, List.map_cons, List.map_map]
      rfl

theorem foldl_min_spec (l : List Nat) : ∀ a : Nat, l.foldl min a ≤ a ∧ (∀ x ∈ l, l.foldl min a ≤ x) ∧
    (l.foldl min a = a ∨ l.foldl min a ∈ l) := by
  induction l with
  | nil => exact fun a => ⟨le_rfl, nofun, .inl rfl⟩
  | cons x l ih =>
    intro a
    obtain ⟨ha, hall, hmem⟩ := ih (min a x)
    refine ⟨ha.trans (min_le_left ..), List.forall_mem_cons.2 ⟨ha.trans (min_le_right ..), hall⟩, ?_⟩
    rcases hmem with h | h
    · rcases min_choice a x with hmin | hmin
      · exact .inl (h.trans hmin)
      · exact .inr (List.mem_cons.2 (.inl (h.trans hmin)))
    · exact .inr (List.mem_cons_of_mem _ h)

theorem shortest_spec {l : List Nat} (h : l ≠ []) : (∀ x ∈ l, shortest l ≤ x) ∧ shortest l ∈ l := by
  obtain ⟨-, hall, hmem⟩ := foldl_min_spec l (l.headD 0)
  refine ⟨hall, hmem.elim (fun heq => ?_) id⟩
  cases l with
  | nil => exact absurd rfl h
  | cons a l =>
    rw [shortest, heq]
    exact List.mem_cons_self

theorem longest_spec {l : List Nat} (h : l ≠ []) : (∀ x ∈ l, x ≤ longest l) ∧ longest l ∈ l := by
  obtain ⟨-, hall, hmem⟩ := foldl_max_spec l 0
  refine ⟨hall, hmem.elim (fun heq => ?_) id⟩
  obtain ⟨a, l, rfl⟩ := List.exists_cons_of_ne_nil h
  have hzero : a = 0 := Nat.le_zero.1 ((hall a List.mem_cons_self).trans (le_of_eq heq))
  rw [longest, heq, ← hzero]
  exact List.mem_cons_self

section
variable {stamps : List Stamp} (h : stamps.length = 17)
include h

theorem sMin_spec : (∀ j < 8, sMin stamps ≤ stampInterval stamps j) ∧ ∃ j < 8, sMin stamps = stampInterval stamps j := by
  have hfirst : (intervals stamps).take 8 = (List.range 8).map (stampInterval stamps) := by
    rw [intervals_eq, h, ← List.map_take, List.take_range]
    rfl
  obtain ⟨hall, hmem⟩ := shortest_spec (l := (List.range 8).map (stampInterval stamps)) nofun
  rw [sMin, hfirst]
  refine ⟨fun j hj => hall _ (List.mem_map_of_mem (List.mem_range.2 hj)), ?_⟩
  obtain ⟨j, hj, heq⟩ := List.mem_map.1 hmem
  exact ⟨j, List.mem_range.1 hj, heq.symm⟩

theorem sMax_spec : (∀ j < 16, 8 ≤ j → stampInterval stamps j ≤ sMax stamps) ∧
    ∃ j < 16, 8 ≤ j ∧ sMax stamps = stampInterval stamps j := by
  have hmem16 : ∀ j, j ∈ (List.range 16).drop 8 ↔ j < 16 ∧ 8 ≤ j := fun j => by
    have hdrop : (List.range 16).drop 8 = List.range' 8 8 := rfl
    rw [hdrop, List.mem_range'_1]
    omega
  have hlast : (intervals stamps).drop 8 = ((List.range 16).drop 8).map (stampInterval stamps) := by
    rw [intervals_eq, h, ← List.map_drop]
  obtain ⟨hall, hmem⟩ := longest_spec (l := ((List.range 16).drop 8).map (stampInterval stamps)) nofun
  rw [sMax, hlast]
  refine ⟨fun j hj h8 => hall _ (List.mem_map_of_mem ((hmem16 j).2 ⟨hj, h8⟩)), ?_⟩
  obtain ⟨j, hj, heq⟩ := List.mem_map.1 hmem
  obtain ⟨hlt, hle⟩ := (hmem16 j).1 hj
  exact ⟨j, hlt, hle, heq.symm⟩

end

theorem trainingFault_iff (stamps : List Stamp) :
    let i := (sMin stamps + sMax stamps + 1) / 2
    (trainingFault stamps = some .trainRange ↔ i < 512 ∨ 3072 < i) ∧
    (trainingFault stamps = some .trainSpread ↔
      512 ≤ i ∧ i ≤ 3072 ∧ ((i / 16 : Nat) : Int) < (sMax stamps : Int) - sMin stamps) ∧
    (trainingFault stamps = none ↔
      512 ≤ i ∧ i ≤ 3072 ∧ (sMax stamps : Int) - sMin stamps ≤ ((i / 16 : Nat) : Int)) := by
  unfold trainingFault
  dsimp only
  rw [trainedInterval]
  split
  · simp only [true_iff, false_iff, reduceCtorEq, Option.some.injEq]
    omega
  · split <;> simp only [true_iff, false_iff, reduceCtorEq, Option.some.injEq] <;> omega

theorem inboundStep_bounds {i : Nat} (h : 0 < i) : inboundStep i * (2 * i) ≤ 2 * 33554432 + i ∧
    2 * 33554432 + i < (inboundStep i + 1) * (2 * i) := by
  unfold inboundStep
  generalize 2 * 33554432 + i = n
  exact ⟨Nat.div_mul_le_self n _, (Nat.div_lt_iff_lt_mul (by omega)).1 (Nat.lt_succ_self _)⟩

end Sys2Proof.Machine

namespace Sys2Proof.Proofs

open Sys2Proof.Machine

/-- Settles O37: the two roundings by their divisions, and the flags by the limits. -/
theorem roundingAndClipOfSample : Obligations.RoundingAndClipOfSample := by
  refine ⟨headroomShift_eq, fun x => ?_, fun v => ?_, fun v k hk => ⟨trimmed_eq v k, trimmed_natAbs_le v hk⟩,
    fun v lo hi => ?_, fun p n => ?_, fun p f => List.countP_eq_length_filter .., fun p => ?_⟩
  · rw [headroomShift_eq]
    show (x.toInt * 32768 + 16384) / 32768 = x.toInt
    omega
  · rw [trimmed_eq]
    omega
  · obtain ⟨hinside, hhigh, hlow, hwrong⟩ := clipFlag_iff v lo hi
    obtain ⟨hmin, hmax⟩ := clipped_between v lo hi
    refine ⟨hinside, hhigh, hlow, hwrong, clipped_of_inside, fun h => ?_, fun h => ?_, hmin, hmax⟩
    · rw [clipped, h]
    · rcases h with h | h <;> rw [clipped, h]
  · exact Vector.getElem_ofFn ..
  · exact (countP_clipFlag (fun n => clipFlag (mixValue p n) p.lo p.hi) (List.finRange 48)).trans List.length_finRange

/-- Settles O44: the least and the greatest interval, the tests of their mean and the two steps. -/
theorem trainingArithmetic : Obligations.TrainingArithmetic := by
  refine ⟨fun stamps h => ?_, fun i hlow hhigh => ⟨rfl, inboundStep_bounds (by omega)⟩⟩
  obtain ⟨hmin, hleast⟩ := sMin_spec h
  obtain ⟨hmax, hgreatest⟩ := sMax_spec h
  obtain ⟨hrange, hspread, hnone⟩ := trainingFault_iff stamps
  exact ⟨hmin, hleast, hmax, hgreatest, rfl, hrange, hspread, hnone⟩

/-- Settles O46: each converter by what its buffer holds. -/
theorem convertersOfPort : Obligations.ConvertersOfPort := by
  intro s k x
  generalize hp : s.ports[k] = p
  refine ⟨fun h => ⟨fun hroom => ?_, fun hfull => ?_⟩, fun h => ⟨fun a b rest f hbuffer hf hphase => ?_, fun hfew => ?_,
    fun a b rest g hbuffer hg hphase => ?_, fun hfew => ?_⟩, fun h => ⟨?_, ?_⟩⟩
  · rw [State.exec_sampleWord hp h]
    exact congrArg _ ((if_pos hroom).trans (State.setPort_setPort ..))
  · rw [State.exec_sampleWord hp h]
    exact congrArg _ (if_neg (Nat.not_lt.2 hfull))
  · refine ⟨interpolate a b p.phaseIn, interpolate_toInt a b hphase, ?_⟩
    rw [State.exec_inboundMoment_of_two hp h hbuffer, Port.convertIn_eq hf]
    rfl
  · rw [State.exec_inboundMoment_of_few hp h hfew, Port.produce_lastIn]
    rfl
  · refine ⟨interpolate a b p.phaseOut, interpolate_toInt a b hphase, ?_⟩
    rw [State.exec_outboundRequest_of_two hp h hbuffer, Port.convertOut_eq hg]
    rfl
  · rw [State.exec_outboundRequest_of_few hp h hfew]
    rfl
  · rw [exec, execInboundSampleMoment, hp]
    exact congrArg _ (if_neg h)
  · rw [exec, execOutboundWordRequest, hp]
    exact congrArg _ (if_neg h)

end Sys2Proof.Proofs

/-!
SUPPORT. The talk of a field port, and a port that leaves its admitted states (R62, R72, R76, R171).
-/

namespace Sys2Proof.Machine

variable {s u t : State} {k : PortNo} {p q r : Port} {n : TalkNo} {x : OutTalk} {own : Station}

/-! ### The talk of a port -/

theorem State.portTalk_eq_none (h : ∀ (n : TalkNo) (x : OutTalk), s.outTalks[n] = some x → x.origin ≠ .field k) :
    s.portTalk k = none := List.find?_eq_none.2 fun n _ hn => by
  obtain ⟨x, hx, horigin⟩ := Option.map_eq_some_iff.1 (beq_iff_eq.1 hn)
  exact h n x hx horigin

theorem State.portTalk_eq_some (hx : s.outTalks[n] = some x) (horigin : x.origin = .field k)
    (honly : ∀ (j : TalkNo) (y : OutTalk), s.outTalks[j] = some y → y.origin = .field k → j = n) :
    s.portTalk k = some n := by
  cases hfind : s.portTalk k with
  | some j =>
    have hj := List.find?_some (p := fun n : TalkNo => (s.outTalks[n].map OutTalk.origin) == some (Origin.field k)) hfind
    obtain ⟨y, hy, hyorigin⟩ := Option.map_eq_some_iff.1 (beq_iff_eq.1 hj)
    rw [honly j y hy hyorigin]
  | none =>
    refine absurd ?_ (List.find?_eq_none.1 hfind n (List.mem_finRange n))
    rw [hx, Option.map_some, horigin]
    exact beq_iff_eq.2 rfl

theorem State.portTalk_ne_none (hx : s.outTalks[n] = some x) (horigin : x.origin = .field k) : s.portTalk k ≠ none := by
  intro hfind
  refine absurd ?_ (List.find?_eq_none.1 hfind n (List.mem_finRange n))
  rw [hx, Option.map_some, horigin]
  exact beq_iff_eq.2 rfl

theorem State.portTalkOn_of_talk (h : s.portTalk k ≠ none) : s.portTalkOn k = s := by
  unfold State.portTalkOn
  cases hfind : s.portTalk k with
  | none => exact absurd hfind h
  | some j => rfl

section
variable {g : TalkTarget} (hnone : s.portTalk k = none) (hg : s.ports[k].target = some g)
include hnone hg

theorem State.portTalkOn_of_all_mix (h : g.station.val = 63 ∧ g.kind = .mix) :
    s.portTalkOn k = s.count Counters.incTalkerIgnored := by
  rw [State.portTalkOn, hnone, hg]
  exact if_pos h

theorem State.portTalkOn_of_full (hfull : s.freeTalk = none) : s.portTalkOn k = s.count Counters.incTalkerIgnored := by
  rw [State.portTalkOn, hnone, hg]
  dsimp only
  split
  · rfl
  · rw [hfull]

theorem State.portTalkOn_of_free (hsuits : g.station.val ≠ 63 ∨ g.kind = .group) (hfree : s.freeTalk = some n) :
    s.portTalkOn k = s.createTalk n ⟨⟨16 + k.val, by omega⟩, g, 2, true, .field k, [], 0, .pending, s.clock.now, false,
      s.clock.now + 1228800, false⟩ := by
  have hnot : ¬ (g.station.val = 63 ∧ g.kind = .mix) := fun h => hsuits.elim (fun hne => hne h.1) fun hgroup => by
    rw [h.2] at hgroup
    cases hgroup
  rw [State.portTalkOn, hnone, hg]
  dsimp only
  rw [if_neg hnot, hfree, OutTalk.fresh_eq]

end

/-- A TALK_ON word of a LIVE port. -/
theorem State.exec_talkOnWord (hp : s.ports[k] = p) (h : p.state = .live) :
    exec (.talkOnWord k) s = .next ((s.setPort k (p.heardAt s.clock.now)).portTalkOn k) := by
  refine State.word_of hp (by rw [h]; nofun) ?_
  have hstate : (p.heardAt s.clock.now).state = p.state := rfl
  rw [hstate, h]

/-- A TALK_OFF word of a SETTLING or LIVE port. -/
theorem State.exec_talkOffWord (hp : s.ports[k] = p) (h : p.state = .settling ∨ p.state = .live) :
    exec (.talkOffWord k) s = .next ((s.setPort k (p.heardAt s.clock.now)).releasePortTalk k) := by
  refine State.word_of hp (by rcases h with h | h <;> rw [h] <;> nofun) ?_
  have hstate : (p.heardAt s.clock.now).state = p.state := rfl
  rw [hstate]
  rcases h with h | h <;> rw [h]

theorem State.releasePortTalk_of_none (h : s.portTalk k = none) : s.releasePortTalk k = s := by
  rw [State.releasePortTalk, h]

theorem State.releasePortTalk_of_some (h : s.portTalk k = some n) : s.releasePortTalk k = s.releaseTalk n := by
  rw [State.releasePortTalk, h]

end Sys2Proof.Machine

namespace Sys2Proof.Proofs

open Sys2Proof.Machine

/-- Settles O47: the port's talk where it has one, else the free number and the target. -/
theorem fieldTalkWordsActOnTalker : Obligations.FieldTalkWordsActOnTalker := by
  intro s k own hown
  generalize hp : s.ports[k] = p
  have hport : (s.setPort k (p.heardAt s.clock.now)).ports[k] = p.heardAt s.clock.now := vector_set_getElem_self ..
  refine ⟨fun h => ?_, fun h => ?_⟩
  · have hexec := State.exec_talkOnWord hp h
    refine ⟨fun n x hx horigin => ?_, fun hnot g hg => ?_⟩
    · rw [hexec, State.portTalkOn_of_talk (s := s.setPort k (p.heardAt s.clock.now)) (State.portTalk_ne_none (n := n) hx horigin)]
      rfl
    · have hnone : (s.setPort k (p.heardAt s.clock.now)).portTalk k = none := State.portTalk_eq_none hnot
      have htarget : (s.setPort k (p.heardAt s.clock.now)).ports[k].target = some g := by rw [hport]; exact hg
      refine ⟨fun hall => ?_, fun hfull => ?_, fun n hsuits hn hlow => ?_⟩
      · rw [hexec, State.portTalkOn_of_all_mix hnone htarget hall]
        rfl
      · rw [hexec, State.portTalkOn_of_full hnone htarget (State.freeTalk_eq_none hfull)]
        rfl
      · rw [State.portTalkOn_of_free hnone htarget hsuits (State.freeTalk_eq_some hn hlow)] at hexec
        generalize hx : (⟨⟨16 + k.val, by omega⟩, g, 2, true, .field k, [], 0, .pending, s.clock.now, false,
          s.clock.now + 1228800, false⟩ : OutTalk) = x
        have hcreated : exec (.talkOnWord k) s = .next ((s.setPort k (p.heardAt s.clock.now)).createTalk n x) := by
          rw [hexec, ← hx]
          rfl
        obtain ⟨⟨y, hy, hstanding⟩, hevents⟩ := State.createTalk_spec (s.setPort k (p.heardAt s.clock.now)) n x
        obtain ⟨hsource, hgoal, hcls, hintr, horigin, hmade, -⟩ := OutTalk.fields_of_standing hstanding
        have hframe := (State.createTalk_talkStep (s.setPort k (p.heardAt s.clock.now)) n x).eq
        obtain ⟨hpeer, hself, hall⟩ := State.sendTalk_by_target (s := (s.setPort k (p.heardAt s.clock.now)).withTalk n x) hown n x
        subst hx
        exact ⟨⟨_, y, hcreated, hy, hsource, hgoal, hcls, hintr, horigin, hmade, hevents, hframe⟩,
          fun h63 hne => hcreated.trans (congrArg _ (hpeer h63 hne)), fun h63 ht => hcreated.trans (congrArg _ (hself h63 ht)),
          fun h63 ht => hcreated.trans (congrArg _ (hall h63 ht))⟩
  · have hexec := State.exec_talkOffWord hp h
    refine ⟨fun hnot => ?_, fun n x hx horigin honly => ?_⟩
    · rw [hexec, State.releasePortTalk_of_none (s := s.setPort k (p.heardAt s.clock.now)) (State.portTalk_eq_none hnot)]
      rfl
    · rw [State.releasePortTalk_of_some (s := s.setPort k (p.heardAt s.clock.now)) (State.portTalk_eq_some hx horigin honly)] at hexec
      obtain ⟨hfree, q, su, hevents⟩ := State.releaseTalk_spec (s := s.setPort k (p.heardAt s.clock.now)) hx
      have hframe := (State.releaseTalk_talkStep (s.setPort k (p.heardAt s.clock.now)) n).eq
      obtain ⟨hpeer, hself, hall⟩ := State.releaseTalk_by_target (s := s.setPort k (p.heardAt s.clock.now)) hx hown
      rw [horigin] at hevents hpeer hself hall
      exact ⟨⟨_, q, su, hexec, hfree, hevents, hframe⟩, fun h63 hne => hexec.trans (congrArg _ (hpeer h63 hne)),
        fun h63 ht => hexec.trans (congrArg _ (hself h63 ht)), fun h63 ht => hexec.trans (congrArg _ (hall h63 ht))⟩

end Sys2Proof.Proofs

/-!
SUPPORT. A port that leaves its admitted states: its FIELD event, the talks on its return mix, its own talk, and IDLE (R62,
R76, R171).
-/

namespace Sys2Proof.Machine

variable {s u v t : State} {k : PortNo} {p q r : Port}

/-- A record that stands after an arbiter step stood before it, with the same origin. -/
theorem State.ArbStep.exists_origin (h : s.ArbStep t) {n : TalkNo} {y : OutTalk} (hy : t.outTalks[n] = some y) :
    ∃ x, s.outTalks[n] = some x ∧ x.origin = y.origin := by
  have houts := h.outs n
  rw [hy, Option.map_some, eq_comm, Option.map_eq_some_iff] at houts
  obtain ⟨x, hx, hstanding⟩ := houts
  exact ⟨x, hx, (OutTalk.fields_of_standing hstanding).2.2.2.2.1⟩

/-- A release brings no record. -/
theorem State.releaseTalk_origin {n : TalkNo} {x y : OutTalk} {j : TalkNo} (hx : s.outTalks[n] = some x)
    (hy : (s.releaseTalk n).outTalks[j] = some y) : j ≠ n ∧ ∃ z, s.outTalks[j] = some z ∧ z.origin = y.origin := by
  rw [State.releaseTalk_of_some hx rfl rfl] at hy
  dsimp only at hy
  rw [vector_set_getElem] at hy
  split at hy
  · cases hy
  case isFalse hne => exact ⟨Ne.symm hne, (s.sendTalkEnd_tablesStep n x).toArbStep.exists_origin hy⟩

theorem State.releaseTalk_events {n : TalkNo} {x : OutTalk} (hx : s.outTalks[n] = some x) :
    ∃ es : List Event, (s.releaseTalk n).events = es.foldl EventQueue.push s.events := by
  obtain ⟨es, hes⟩ := (s.sendTalkEnd_tablesStep n x).events
  rw [State.releaseTalk_of_some hx rfl rfl]
  exact ⟨es ++ [_], by rw [List.foldl_append, ← hes]; rfl⟩

theorem State.TalkStep.setPort_eq (h : (u.setPort k r).TalkStep t) (q : Port) :
    t.setPort k q = { t with ports := u.ports.set k q } := by
  have hports : t.ports.set k q = u.ports.set k q := by
    rw [h.ports]
    exact Vector.set_set ..
  rw [State.setPort, hports]

/-- A port put in its place after a talk step. -/
theorem State.TalkStep.eq_setPort (h : (u.setPort k r).TalkStep t) (q : Port) : t.setPort k q = { u with
    ports := u.ports.set k q, routes := t.routes, talks := t.talks, outTalks := t.outTalks
    listens := t.listens, sched := { u.sched with notes := t.sched.notes }, counters := t.counters
    events := t.events } := by
  have hframe := h.eq
  rw [h.setPort_eq]
  exact (congrArg (fun w : State => { w with ports := u.ports.set k q }) hframe :)

/-- The FIELD event of a port that leaves its admitted states, and its return mix without talks (R62, R171). -/
def State.mixCleared (u : State) (k : PortNo) (q : Port) (f : PortFault) : State :=
  (u.emit (.field k q.state .idle f .notVerified q.failures q.interval u.audio.blockCounter)).clearReturnMix k

theorem State.mixCleared_removed (u : State) (k : PortNo) (q : Port) (f : PortFault) : State.Removed (returnMix k) ⟨[], []⟩
    (u.emit (.field k q.state .idle f .notVerified q.failures q.interval u.audio.blockCounter)) (u.mixCleared k q f) :=
  State.clearReturnMix_removed ..

theorem State.toIdle_of_admitted {f : PortFault} (h : q.state.admitted = true) :
    u.toIdle k q f = ((u.mixCleared k q f).releasePortTalk k).setPort k (q.idled f) := by
  unfold State.toIdle State.mixCleared State.fieldEvent
  dsimp only
  rw [if_pos h, Port.idled_state, Port.idled_idResult, Port.idled_failures, Port.idled_interval]

/-- What leaving an admitted state does: the port's own talk, the return mix, the events and the frame. -/
theorem State.toIdle_leaves {f : PortFault} (h : q.state.admitted = true)
    (honly : ∀ (i j : TalkNo) (x y : OutTalk), u.outTalks[i] = some x → u.outTalks[j] = some y →
      x.origin = .field k → y.origin = .field k → i = j) :
    ((∀ (i : TalkNo) (x : OutTalk), u.outTalks[i] = some x → x.origin ≠ .field k) →
      (u.setPort k r).toIdle k q f = { (u.setPort k r).mixCleared k q f with ports := u.ports.set k (q.idled f) }) ∧
    (∀ (i : TalkNo) (x : OutTalk), u.outTalks[i] = some x → x.origin = .field k →
      (u.setPort k r).toIdle k q f =
        { ((u.setPort k r).mixCleared k q f).releaseTalk i with ports := u.ports.set k (q.idled f) }) ∧
    ((u.setPort k r).toIdle k q f).talks[returnMix k] = ⟨[], []⟩ ∧
    (∀ (i : TalkNo) (x : OutTalk), ((u.setPort k r).toIdle k q f).outTalks[i] = some x → x.origin ≠ .field k) ∧
    (∃ es : List Event, ((u.setPort k r).toIdle k q f).events = es.foldl EventQueue.push
      (u.events.push (.field k q.state .idle f .notVerified q.failures q.interval u.audio.blockCounter))) ∧
    (u.setPort k r).toIdle k q f = { u with
      ports := u.ports.set k (q.idled f), routes := ((u.setPort k r).toIdle k q f).routes
      talks := ((u.setPort k r).toIdle k q f).talks, outTalks := ((u.setPort k r).toIdle k q f).outTalks
      listens := ((u.setPort k r).toIdle k q f).listens
      sched := { u.sched with notes := ((u.setPort k r).toIdle k q f).sched.notes }
      counters := ((u.setPort k r).toIdle k q f).counters, events := ((u.setPort k r).toIdle k q f).events } := by
  have hremoved := (u.setPort k r).mixCleared_removed k q f
  have hstep : (u.setPort k r).TalkStep ((u.setPort k r).mixCleared k q f) :=
    (State.emit_talkStep _ _).trans hremoved.toTalkStep
  have hframe := ((hstep.trans (State.releasePortTalk_talkStep _ k)).eq_setPort (q.idled f))
  have hback : ∀ (i : TalkNo) (y : OutTalk), ((u.setPort k r).mixCleared k q f).outTalks[i] = some y →
      ∃ x, u.outTalks[i] = some x ∧ x.origin = y.origin := fun i y hy => hremoved.toArbStep.exists_origin hy
  have hempty := State.releasePortTalk_empty _ k hremoved.left
  rw [State.toIdle_of_admitted h]
  have hnone : (∀ (i : TalkNo) (x : OutTalk), u.outTalks[i] = some x → x.origin ≠ .field k) →
      ((u.setPort k r).mixCleared k q f).releasePortTalk k = (u.setPort k r).mixCleared k q f := fun hnot =>
    State.releasePortTalk_of_none (State.portTalk_eq_none fun i y hy => by
      obtain ⟨x, hx, horigin⟩ := hback i y hy
      exact horigin ▸ hnot i x hx)
  have hsome : ∀ (i : TalkNo) (x : OutTalk), u.outTalks[i] = some x → x.origin = .field k →
      ((u.setPort k r).mixCleared k q f).releasePortTalk k = ((u.setPort k r).mixCleared k q f).releaseTalk i ∧
      ∃ y, ((u.setPort k r).mixCleared k q f).outTalks[i] = some y ∧ y.origin = .field k := fun i x hx horigin => by
    obtain ⟨y, hy, hstanding⟩ := hremoved.toArbStep.exists_standing (n := i) (x := x) hx
    have hyorigin : y.origin = .field k := (OutTalk.fields_of_standing hstanding).2.2.2.2.1.trans horigin
    refine ⟨State.releasePortTalk_of_some (State.portTalk_eq_some hy hyorigin fun j z hz hzorigin => ?_), y, hy, hyorigin⟩
    obtain ⟨w, hw, hworigin⟩ := hback j z hz
    exact honly j i w x hw hx (hworigin.trans hzorigin) horigin
  refine ⟨fun hnot => ?_, fun i x hx horigin => ?_, hempty, ?_, ?_, hframe⟩
  · rw [hnone hnot, hstep.setPort_eq]
  · rw [(hsome i x hx horigin).1, (hstep.trans (State.releaseTalk_talkStep _ i)).setPort_eq]
  all_goals
    by_cases hnot : ∀ (i : TalkNo) (x : OutTalk), u.outTalks[i] = some x → x.origin ≠ .field k
  · rw [hnone hnot]
    intro i y hy
    obtain ⟨x, hx, horigin⟩ := hback i y hy
    exact horigin ▸ hnot i x hx
  · push Not at hnot
    obtain ⟨i, x, hx, horigin⟩ := hnot
    obtain ⟨hrelease, z, hz, -⟩ := hsome i x hx horigin
    rw [hrelease]
    intro j y hy hyorigin
    obtain ⟨hne, w, hw, hworigin⟩ := State.releaseTalk_origin hz hy
    obtain ⟨a, ha, haorigin⟩ := hback j w hw
    exact hne (honly j i a x ha hx ((haorigin.trans hworigin).trans hyorigin) horigin)
  · rw [hnone hnot]
    exact hremoved.events
  · push Not at hnot
    obtain ⟨i, x, hx, horigin⟩ := hnot
    obtain ⟨hrelease, z, hz, -⟩ := hsome i x hx horigin
    rw [hrelease]
    exact exists_events_trans hremoved.events (State.releaseTalk_events hz)

/-- What `Obligations.LeavingAdmittedStateEndsTalks` asks of a command `c` with fault `f` at a port `p`: `u` is the state before
it, but for the port's link silence timer `silence`, `n` the failures it leaves. -/
def State.Leaves (s : State) (k : PortNo) (p : Port) (c : Instr) (f : PortFault) (u : State) (answered : State → State)
    (silence : Option Nat) (n : Nat) : Prop :=
  let m := returnMix k
  let idle : Port := { p with
    state := .idle, idResult := .notVerified, failures := n, lastFault := f, silenceDue := silence
    stamps := [], codes := [], gapDue := none, codeDue := none, holdoffDue := none
    elastic := [], phaseIn := 0, lastIn := 0, progress := [], completed := Block.silence
    outbound := [], phaseOut := 0, lastOut := 0 }
  let told := ({ u with ports := s.ports.set k { p with silenceDue := silence } } : State).emit
    (.field k p.state .idle f .notVerified n p.interval s.audio.blockCounter)
  let cleared := s.talks[m].granted.foldl (State.removeGranted m .destDown .destDown)
    (s.talks[m].waiting.foldl (State.removeWaiting m .destDown) told)
  let gone := fun v : State => exec c s = .next (answered { v with ports := s.ports.set k idle })
  ((∀ (i : TalkNo) (x : OutTalk), s.outTalks[i] = some x → x.origin ≠ .field k) → gone cleared) ∧
  (∀ (i : TalkNo) (x : OutTalk), s.outTalks[i] = some x → x.origin = .field k → gone (cleared.releaseTalk i)) ∧
  ∃ t : State, exec c s = .next t ∧
    t.talks[m] = ⟨[], []⟩ ∧
    (∀ (i : TalkNo) (x : OutTalk), t.outTalks[i] = some x → x.origin ≠ .field k) ∧
    (∃ es : List Event, t.events = es.foldl EventQueue.push (s.events.push
      (.field k p.state .idle f .notVerified n p.interval s.audio.blockCounter))) ∧
    t = { answered u with
      ports := s.ports.set k idle, routes := t.routes, talks := t.talks, outTalks := t.outTalks
      listens := t.listens, sched := { s.sched with notes := t.sched.notes }, counters := t.counters
      events := t.events }

/-- A command that takes the port to IDLE out of an admitted state does what is asked of it. -/
theorem State.leaves_of {c : Instr} {f : PortFault} {answered : State → State} {silence : Option Nat}
    (honly : ∀ (i j : TalkNo) (x y : OutTalk), s.outTalks[i] = some x → s.outTalks[j] = some y →
      x.origin = .field k → y.origin = .field k → i = j)
    (hu : ∃ (d : Clock) (e : Ring), u = { s with clock := d, ring := e }) (ha : answered = id ∨ answered = fun v => v.respond 0x05 .done .none [])
    (hq : q.state.admitted = true) (hstate : q.state = p.state) (hinterval : q.interval = p.interval)
    (hidle : q.idled f = { p with
      state := .idle, idResult := .notVerified, failures := q.failures, lastFault := f, silenceDue := silence
      stamps := [], codes := [], gapDue := none, codeDue := none, holdoffDue := none
      elastic := [], phaseIn := 0, lastIn := 0, progress := [], completed := Block.silence
      outbound := [], phaseOut := 0, lastOut := 0 })
    (hexec : exec c s = .next (answered ((u.setPort k { p with silenceDue := silence }).toIdle k q f))) :
    s.Leaves k p c f u answered silence q.failures := by
  obtain ⟨d, e, rfl⟩ := hu
  obtain ⟨hnone, hsome, hempty, hgone, hevents, hframe⟩ := State.toIdle_leaves (u := { s with clock := d, ring := e })
    (r := { p with silenceDue := silence }) (f := f) hq honly
  unfold State.mixCleared at hnone hsome
  rw [hstate, hinterval] at hnone hsome hevents
  rw [hidle] at hnone hsome hframe
  rcases ha with rfl | rfl
  · exact ⟨fun hnot => hexec.trans (congrArg _ (hnone hnot)),
      fun i x hx horigin => hexec.trans (congrArg _ (hsome i x hx horigin)), _, hexec, hempty, hgone, hevents, hframe⟩
  · have answered : ∀ {v w : State}, v = w → v.respond 0x05 .done .none [] = w.respond 0x05 .done .none [] :=
      fun h => by rw [h]
    exact ⟨fun hnot => hexec.trans (congrArg _ (answered (hnone hnot))),
      fun i x hx horigin => hexec.trans (congrArg _ (answered (hsome i x hx horigin))), _, hexec, hempty, hgone, hevents,
      (answered hframe :)⟩

end Sys2Proof.Machine

namespace Sys2Proof.Proofs

open Sys2Proof.Machine

/-- Settles O41: the port goes to IDLE in one way, whatever makes it leave. -/
theorem leavingAdmittedStateEndsTalks : Obligations.LeavingAdmittedStateEndsTalks := by
  intro s k honly
  have hself : ∀ u : State, u.ports = s.ports → u = u.setPort k { s.ports[k] with silenceDue := s.ports[k].silenceDue } :=
    fun u hu => by
      have hports : u.ports = u.ports.set k s.ports[k] := by rw [hu]; exact (Vector.set_getElem_self ..).symm
      exact congrArg (fun v => { u with ports := v }) hports
  generalize hp : s.ports[k] = p at hself ⊢
  have hheard : ∀ {c : Instr} {f : PortFault} {q : Port}, f ≠ .none → q.state.admitted = true → q.state = p.state →
      q.interval = p.interval → q.failures = p.failures → q.idled f = (p.heardAt s.clock.now).idled f →
      exec c s = .next ((s.setPort k (p.heardAt s.clock.now)).toIdle k q f) →
      s.Leaves k p c f s id (some (s.clock.now + 491520)) p.failures := fun hf hq hstate hinterval hfailures hidle hexec => by
    rw [← hfailures]
    exact State.leaves_of honly ⟨_, _, rfl⟩ (.inl rfl) hq hstate hinterval (by rw [hidle, Port.idled_of_ne hf, hfailures]; rfl) hexec
  have hbroken : ∀ {c : Instr} {own : State → Port → State}, p.state = .retraining → exec c s = .next (s.takeWord k own) →
      own (s.setPort k (p.heardAt s.clock.now)) (p.heardAt s.clock.now) =
        (s.setPort k (p.heardAt s.clock.now)).breakTraining k (p.heardAt s.clock.now) →
      s.Leaves k p c .trainBroken s id (some (s.clock.now + 491520)) p.failures := fun h hexec hown =>
    hheard (q := p.heardAt s.clock.now) nofun (show p.state.admitted = true by rw [h]; rfl) rfl rfl rfl rfl
      (hexec.trans (State.word_of hp (by rw [h]; nofun) hown))
  have htimer : ∀ {c : Instr} {f : PortFault} {due : Nat}, f ≠ .none → p.state.admitted = true →
      exec c s = .next ((s.reach due).toIdle k p f) → s.Leaves k p c f (s.reach due) id p.silenceDue p.failures :=
    fun {_ f due} hf hq hexec => State.leaves_of (q := p) honly ⟨_, _, rfl⟩ (.inl rfl) hq rfl rfl (Port.idled_of_ne hf p)
      (hexec.trans (congrArg (fun v : State => Host.Outcome.next (v.toIdle k p f)) (hself (s.reach due) rfl)))
  refine ⟨fun h => ⟨?_, fun due hdue => ?_⟩, fun h => ⟨fun x i => ?_, fun f hlength hf => ?_, fun due hdue => ?_⟩, fun h hmode => ?_⟩
  · have hstate : (p.heardAt s.clock.now).state = p.state := rfl
    refine hheard (q := p.heardAt s.clock.now) nofun ?_ rfl rfl rfl rfl (State.word_of hp ?_ ?_)
    · rcases h with h | h <;> rw [hstate, h] <;> rfl
    · rcases h with h | h <;> rw [h] <;> nofun
    · rw [hstate]
      rcases h with h | h <;> rw [h]
  · have hexec : exec (.linkSilenceExpiry k) s = .next ((s.reach due).toIdle k p .linkLost) := by
      rw [exec, execLinkSilenceExpiry, hp, hdue]
      exact congrArg _ (if_pos h)
    exact htimer nofun (by rcases h with h | h <;> rw [h] <;> rfl) hexec
  · obtain ⟨state, _, _, _, _, _, _, _, _, _, _, _, _, _, _, _, _, _, _, _, _, _, _, _, _, _, _, _, _⟩ := p
    simp only at h
    subst h
    intro c hc
    simp only [List.mem_cons, List.not_mem_nil, or_false] at hc
    rcases hc with rfl | rfl | rfl | rfl | rfl | rfl <;>
      exact hbroken rfl rfl rfl
  · have hne := trainingFault_ne_none hf
    refine hheard (q := (p.heardAt s.clock.now).stamped s.clock) hne (show p.state.admitted = true by rw [h]; rfl) rfl rfl rfl ?_ ?_
    · rw [Port.idled_of_ne hne, Port.idled_of_ne hne]
      rfl
    · rw [State.exec_nextStamp hp (.inr h), if_neg (by omega), State.completeTraining_of_fault hf]
  · have hexec : exec (.gapTimerExpiry k) s = .next ((s.reach due).toIdle k p .trainTimeout) := by
      rw [exec, execGapTimerExpiry, hp, hdue]
      exact congrArg _ (if_pos (.inr h))
    exact htimer nofun (by rw [h]; rfl) hexec
  · have hadmitted : p.state.admitted = true := by rcases h with h | h | h <;> rw [h] <;> rfl
    have hne : p.state ≠ .disabled := by rcases h with h | h | h <;> rw [h] <;> nofun
    have harg : argFin 8 [word k.val] 0 = some k :=
      argFin_of_arg_eq (word_toNat_of_lt (k.isLt.trans (by decide)))
    refine State.leaves_of (q := { p with failures := 0 }) honly ⟨s.clock, s.ring, rfl⟩ (.inr rfl) hadmitted rfl rfl rfl ?_
    show Host.Outcome.next (s.configuredCommand codeFieldReset 1 [word k.val] _) = _
    rw [State.configuredCommand_of_configured (args := [word k.val]) (n := 1) hmode rfl, harg]
    dsimp only
    rw [hp, if_neg hne]
    exact congrArg (fun v : State => Host.Outcome.next ((v.toIdle k { p with failures := 0 } .portReset).done codeFieldReset []))
      (hself s rfl)

end Sys2Proof.Proofs

/-!
SUPPORT. The ring interface as equations: what holds ring-out, a message cut short, loss of alignment and the ring
status (R85 to R87, R95, R98).
-/

namespace Sys2Proof.Machine

variable {s : State} {r : Ring} {m : Arrival}

/-! ### What holds ring-out -/

theorem Ring.holding_iff : r.holding = true ↔ r.insertion.isSome = true ∨ r.buffer ≠ [] ∨ r.gapOwed = true := by
  simp [Ring.holding, or_assoc]

theorem Ring.not_holding (h : ¬ (r.insertion.isSome = true ∨ r.buffer ≠ [] ∨ r.gapOwed = true)) :
    r.insertion = none ∧ r.buffer = [] ∧ r.gapOwed = false := by
  rw [not_or, not_or, not_not] at h
  obtain ⟨hinsertion, hbuffer, hgap⟩ := h
  exact ⟨Option.not_isSome_iff_eq_none.1 hinsertion, hbuffer, Bool.eq_false_iff.2 hgap⟩

theorem Ring.emit_of_free (hi : r.insertion = none) (hb : r.buffer = []) (hg : r.gapOwed = false) (x : Symbol) :
    r.emit x = { r with out := x } := by
  simp [Ring.emit, hi, hb, hg]

theorem markEnd_append (pre : List Held) (h : Held) : markEnd (pre ++ [h]) = pre ++ [{ h with ends := true }] := by
  induction pre with
  | nil => rfl
  | cons a l ih =>
    cases l with
    | nil => rfl
    | cons b l => exact congrArg (a :: ·) ih

theorem Ring.endBuffered_of_nil (h : r.buffer = []) : r.endBuffered = { r with gapOwed := true } := by
  rw [Ring.endBuffered, h]
  rfl

theorem Ring.endBuffered_of_append {pre : List Held} {h : Held} (hb : r.buffer = pre ++ [h]) :
    r.endBuffered = { r with buffer := pre ++ [{ h with ends := true }] } := by
  have hne : r.buffer.isEmpty = false := by simp [hb]
  rw [Ring.endBuffered, hne, hb, markEnd_append]
  rfl

/-! ### A message cut short (R86, R95) -/

theorem Collect.collecting_iff {c : Collect} : c.collecting = true ↔ c = .copy ∨ c = .checkCopy := by
  cases c <;> simp [Collect.collecting]

theorem Framing.buffering_message : (Framing.message m).buffering = true ↔ m.path = .buffered := beq_iff_eq

theorem Framing.not_buffering {f : Framing} (h : ∀ m, f = .message m → m.path ≠ .buffered) : f.buffering = false := by
  cases f with
  | message m => exact beq_eq_false_iff_ne.2 (h m rfl)
  | hunting | between | badHeader => rfl

/-- A cut ends the buffered part of its message and counts a copy in arrival. -/
theorem State.cutMessage_of_message (h : s.ring.framing = .message m) : s.cutMessage = { s with
    ring := if m.path = .buffered then s.ring.endBuffered else s.ring
    counters := if m.collect = .copy ∨ m.collect = .checkCopy then
      { s.counters with partialCopies := satInc s.counters.partialCopies } else s.counters } := by
  unfold State.cutMessage
  rw [h]
  dsimp only
  by_cases hc : m.collect = .copy ∨ m.collect = .checkCopy
  · rw [if_pos (Collect.collecting_iff.2 hc), if_pos hc]
    cases m.path <;> rfl
  · rw [if_neg (mt Collect.collecting_iff.1 hc), if_neg hc]
    cases m.path <;> rfl

theorem State.cutMessage_of_none (h : ∀ m, s.ring.framing ≠ .message m) : s.cutMessage = s := by
  unfold State.cutMessage
  cases hf : s.ring.framing with
  | message m => exact absurd hf (h m)
  | hunting | between | badHeader => rfl

/-- A cut, by what it counts. -/
theorem State.cutMessage_eq {cs : Counters} (hcs : (∀ m, s.ring.framing ≠ .message m) ∧ cs = s.counters ∨
    (∃ m, s.ring.framing = .message m ∧ m.collect ≠ .copy ∧ m.collect ≠ .checkCopy) ∧ cs = s.counters ∨
    (∃ m, s.ring.framing = .message m ∧ (m.collect = .copy ∨ m.collect = .checkCopy)) ∧
      cs = { s.counters with partialCopies := satInc s.counters.partialCopies }) : s.cutMessage = { s with
    ring := if s.ring.framing.buffering then s.ring.endBuffered else s.ring, counters := cs } := by
  rcases hcs with ⟨hnone, rfl⟩ | ⟨⟨m, hm, hcopy, hcheck⟩, rfl⟩ | ⟨⟨m, hm, hc⟩, rfl⟩
  · rw [State.cutMessage_of_none hnone, Framing.not_buffering fun m h => absurd h (hnone m)]
    rfl
  · rw [State.cutMessage_of_message hm, if_neg (not_or.2 ⟨hcopy, hcheck⟩), hm]
    simp only [Framing.buffering_message]
  · rw [State.cutMessage_of_message hm, if_pos hc, hm]
    simp only [Framing.buffering_message]

/-! ### Alignment (R85 to R87) -/

/-- The ring interface at a loss of alignment. -/
def Ring.unaligned (r : Ring) (now : Nat) : Ring := { r with aligned := false, alignedAt := now }

theorem State.loseAlignment_eq {cs : Counters} (ha : s.ring.aligned = true) (hmode : s.mode ≠ .unconfigured)
    (hcut : (s.setRing (s.ring.unaligned s.clock.now)).cutMessage = { s with
      ring := if s.ring.framing.buffering then (s.ring.unaligned s.clock.now).endBuffered else s.ring.unaligned s.clock.now
      counters := cs }) : s.loseAlignment = { s with
    ring := if s.ring.holding then
        { (if s.ring.framing.buffering then (s.ring.unaligned s.clock.now).endBuffered else s.ring.unaligned s.clock.now) with
          framing := .hunting }
      else
        { (if s.ring.framing.buffering then (s.ring.unaligned s.clock.now).endBuffered else s.ring.unaligned s.clock.now) with
          framing := .hunting, gapOwed := false, out := .idle }
    counters := cs } := by
  have hconfigured : s.configured = true := bne_iff_ne.2 hmode
  unfold State.loseAlignment
  rw [if_pos ha]
  dsimp only
  rw [hconfigured]
  refine (if_neg nofun).trans ?_
  refine (congrArg (fun u : State => if s.ring.holding then u.setRing { u.ring with framing := .hunting }
    else u.setRing { u.ring with framing := .hunting, gapOwed := false, out := .idle }) hcut).trans ?_
  split <;> rfl

/-- The ring goes DOWN at its due time. -/
theorem State.exec_ringDown {due : Nat} (ha : s.ring.aligned = false) (hup : s.ring.status = .up)
    (hdue : s.ring.alignedAt + Config.downCounts = due) : exec .ringDown s = .next { s.reach due with
      ring := { (s.reach due).ring with
        status := .down, framing := .hunting, buffer := [], gapOwed := false
        out := if s.mode ≠ .unconfigured ∧ s.ring.insertion.isNone then .idle else (s.reach due).ring.out }
      events := s.events.push (.ring .down s.audio.blockCounter none) } := by
  have hinsertion : (s.reach due).ring.insertion.isNone = s.ring.insertion.isNone := by
    rw [← Option.not_isSome, ← Option.not_isSome, (s.reach_outStep due).insertion_isSome]
  have hconfigured : s.configured = true ↔ s.mode ≠ .unconfigured := bne_iff_ne
  rw [exec, execRingDown, hdue]
  refine congrArg _ ((if_pos ⟨by rw [ha]; rfl, hup⟩).trans ?_)
  dsimp only
  simp only [hinsertion, hconfigured]
  rfl

theorem State.exec_ringUp {due : Nat} (ha : s.ring.aligned = true) (hdown : s.ring.status = .down)
    (hdue : s.ring.alignedAt + Config.ms 1 = due) : exec .ringUp s = .next { s.reach due with
      ring := { s.ring with status := .up, framing := .hunting }
      events := s.events.push (.ring .up s.audio.blockCounter none) } := by
  rw [exec, execRingUp, hdue]
  refine congrArg _ ((if_pos ⟨ha, hdown⟩).trans ?_)
  dsimp only
  rw [State.reach_ring_aligned s due ha]
  rfl

end Sys2Proof.Machine

namespace Sys2Proof.Proofs

open Sys2Proof.Machine

/-- Settles O48: loss by what holds ring-out and what is in arrival, and the ring status at its due times. -/
theorem alignmentAndRingStatus : Obligations.AlignmentAndRingStatus := by
  intro s
  refine ⟨fun ha => ?_, fun ha hmode => ?_, fun ha hmode cs hcs => ?_, fun ha => ?_, fun ha => ?_, fun hnone b => ?_, fun m hm => ?_,
    fun ha hup => State.exec_ringDown ha hup rfl, fun h => ?_, fun ha hdown => State.exec_ringUp ha hdown rfl, fun h => ?_⟩
  · exact congrArg _ (if_neg (by rw [ha]; nofun))
  · have hconfigured : s.configured = false := by rw [State.configured, hmode]; rfl
    refine congrArg _ ((if_pos ha).trans ?_)
    dsimp only
    rw [hconfigured]
    rfl
  · have hcut := State.cutMessage_eq (s := s.setRing (s.ring.unaligned s.clock.now)) hcs
    have hexec : exec .alignmentLoss s = .next _ := congrArg Host.Outcome.next (State.loseAlignment_eq ha hmode hcut)
    refine ⟨fun hfree => ?_, fun hheld hnot => ?_, fun hheld m hm hpath => ⟨fun hempty => ?_, fun pre h hb => ?_⟩⟩
    · obtain ⟨-, hbuffer, hgap⟩ := Ring.not_holding hfree
      rw [if_neg (mt Ring.holding_iff.1 hfree), Ring.endBuffered_of_nil (r := s.ring.unaligned s.clock.now) hbuffer] at hexec
      refine hexec.trans (.trans ?_ (congrArg (fun g => Host.Outcome.next { s with
        ring := { s.ring.unaligned s.clock.now with framing := .hunting, out := .idle, gapOwed := g }, counters := cs })
        hgap.symm))
      split <;> rfl
    · rw [if_pos (Ring.holding_iff.2 hheld), Framing.not_buffering hnot] at hexec
      exact hexec
    · rw [if_pos (Ring.holding_iff.2 hheld), hm, if_pos (Framing.buffering_message.2 hpath),
        Ring.endBuffered_of_nil (r := s.ring.unaligned s.clock.now) hempty] at hexec
      exact hexec
    · rw [if_pos (Ring.holding_iff.2 hheld), hm, if_pos (Framing.buffering_message.2 hpath),
        Ring.endBuffered_of_append (r := s.ring.unaligned s.clock.now) hb] at hexec
      exact hexec
  · exact congrArg _ (if_pos ha)
  · exact congrArg _ (if_neg (by rw [ha]; nofun))
  · refine congrArg _ (if_neg ?_)
    cases hf : s.ring.framing with
    | message m => exact absurd hf (hnone m)
    | hunting | between | badHeader => nofun
  · refine congrArg _ ((if_pos ?_).trans (if_neg nofun))
    rw [hm]
    rfl
  · refine congrArg _ (if_neg fun hdown => ?_)
    obtain ⟨ha, hup⟩ := hdown
    rcases h with h | h
    · rw [h] at ha
      cases ha
    · rw [h] at hup
      cases hup
  · refine congrArg _ (if_neg fun hcomes => ?_)
    obtain ⟨ha, hdown⟩ := hcomes
    rcases h with h | h
    · rw [h] at ha
      cases ha
    · rw [h] at hdown
      cases hdown

end Sys2Proof.Proofs

/-!
SUPPORT. A header and its fields, the words of a message in arrival, and the completion of a copy (R84, R90 to R95, R98).
-/

namespace Sys2Proof.Machine

variable {s : State} {r : Ring} {m : Arrival} {w : Word}

/-! ### The fields of a header word -/

theorem bits_eq (w : Word) (lo n : Nat) : bits w lo n = w.toNat / 2 ^ lo % 2 ^ n := by
  rw [bits, Nat.shiftRight_eq_div_pow]

theorem hopOf_val (w : Word) : (hopOf w).val = bits w 25 6 := Nat.mod_mod ..

theorem originOf_val (w : Word) : (originOf w).val = bits w 19 6 := Nat.mod_mod ..

theorem targetOf_val (w : Word) : (targetOf w).val = bits w 4 6 := Nat.mod_mod ..

/-- The header's hop count replaced, the other bits kept (R92). -/
theorem withHop_toNat (w : Word) {h : Nat} (hlt : h < 64) :
    (withHop w h).toNat = w.toNat / 2 ^ 31 * 2 ^ 31 + h * 2 ^ 25 + w.toNat % 2 ^ 25 := by
  have hw := w.isLt
  have hmask : w.toNat &&& 0x81FFFFFF = w.toNat / 2 ^ 31 * 2 ^ 31 ||| w.toNat % 2 ^ 25 := by
    have hsplit : (0x81FFFFFF : Nat) = 2 ^ 31 ||| (2 ^ 25 - 1) := rfl
    rw [hsplit, Nat.and_or_distrib_left, Nat.and_two_pow_sub_one_eq_mod, Nat.and_two_pow, Nat.toNat_testBit,
      Nat.mod_eq_of_lt (show w.toNat / 2 ^ 31 < 2 by omega)]
  have hlow : h * 2 ^ 25 ||| w.toNat % 2 ^ 25 = h * 2 ^ 25 + w.toNat % 2 ^ 25 := by
    rw [Nat.mul_comm]
    exact (Nat.two_pow_add_eq_or_of_lt (Nat.mod_lt _ (by decide)) h).symm
  have hhigh : w.toNat / 2 ^ 31 * 2 ^ 31 ||| (h * 2 ^ 25 + w.toNat % 2 ^ 25) =
      w.toNat / 2 ^ 31 * 2 ^ 31 + (h * 2 ^ 25 + w.toNat % 2 ^ 25) := by
    rw [Nat.mul_comm]
    exact (Nat.two_pow_add_eq_or_of_lt (by omega) _).symm
  have hword : (word (h * 2 ^ 25)).toNat = h * 2 ^ 25 := word_toNat_of_lt (by omega)
  have hconst : (0x81FFFFFF : Word).toNat = 0x81FFFFFF := rfl
  rw [withHop, BitVec.toNat_or, BitVec.toNat_and, hword, hconst, hmask, Nat.lor_assoc, Nat.lor_comm (w.toNat % 2 ^ 25), hlow, hhigh]
  omega

/-- One hop more (R92). -/
theorem withHop_succ (h : bits w 25 6 < 62) : withHop w (bits w 25 6 + 1) = w + 0x02000000#32 := by
  have hw := w.isLt
  rw [bits_eq] at h ⊢
  refine BitVec.eq_of_toNat_eq ?_
  rw [withHop_toNat w (by omega), BitVec.toNat_add]
  have hconst : (0x02000000#32).toNat = 33554432 := rfl
  rw [hconst]
  omega

/-! ### Words at the ring interface -/

theorem State.dataWord_of_unaligned (h : s.ring.aligned = false) : s.dataWord w = s := by
  rw [State.dataWord, h]
  rfl

theorem State.idleSymbol_of_unaligned (h : s.ring.aligned = false) : s.idleSymbol = s := by
  rw [State.idleSymbol, h]
  rfl

section
variable (ha : s.ring.aligned = true)
include ha

theorem State.dataWord_of_closed (hmode : s.mode = .unconfigured) : s.dataWord w = s.setRing { s.ring with out := .data w } := by
  rw [State.dataWord, ha, State.configured, hmode]
  rfl

theorem State.idleSymbol_of_closed (hmode : s.mode = .unconfigured) : s.idleSymbol = s.setRing { s.ring with out := .idle } := by
  rw [State.idleSymbol, ha, State.configured, hmode]
  rfl

variable (hmode : s.mode ≠ .unconfigured)
include hmode

theorem State.dataWord_of_down (hdown : s.ring.status = .down) : s.dataWord w = s.setRing (s.ring.emit .idle) := by
  rw [State.dataWord, ha, State.configured, bne_iff_ne.2 hmode, hdown]
  rfl

theorem State.idleSymbol_of_down (hdown : s.ring.status = .down) : s.idleSymbol = s.setRing (s.ring.emit .idle) := by
  rw [State.idleSymbol, ha, State.configured, bne_iff_ne.2 hmode, hdown]
  rfl

variable (hup : s.ring.status = .up)
include hup

theorem State.idleSymbol_of_up : s.idleSymbol =
    s.cutMessage.setRing (({ s.cutMessage.ring with framing := .between } : Ring).emit .idle) := by
  rw [State.idleSymbol, ha, State.configured, bne_iff_ne.2 hmode, hup]
  rfl

theorem State.dataWord_of_skipping (hf : s.ring.framing = .hunting ∨ s.ring.framing = .badHeader) :
    s.dataWord w = s.setRing (s.ring.emit .idle) := by
  rw [State.dataWord, ha, State.configured, bne_iff_ne.2 hmode, hup]
  rcases hf with hf | hf <;> rw [hf] <;> rfl

theorem State.dataWord_of_between (hf : s.ring.framing = .between) : s.dataWord w = s.takeHeader w := by
  rw [State.dataWord, ha, State.configured, bne_iff_ne.2 hmode, hup, hf]
  rfl

theorem State.dataWord_of_message (hf : s.ring.framing = .message m) : s.dataWord w = s.takeBody m w := by
  rw [State.dataWord, ha, State.configured, bne_iff_ne.2 hmode, hup, hf]
  rfl

end

/-! ### Headers (R90 to R93) -/

/-- The selection of a forwarded message at its header, by the fields' numbers (R93). -/
theorem State.collectAt_eq {own : Station} (hown : s.cfg.number = some own) (w : Word) : s.collectAt w =
    if w.msb then (if bits w 4 6 = 63 ∨ bits w 4 6 = own.val then Collect.copy else .no) else .undecided := by
  have htarget : some (targetOf w) = s.cfg.number ↔ bits w 4 6 = own.val := by
    rw [hown, Option.some.injEq, Fin.ext_iff, targetOf_val]
  unfold State.collectAt
  simp only [isNote, htarget, targetOf_val]

theorem State.origin_eq_iff {own : Station} (hown : s.cfg.number = some own) (w : Word) :
    some (originOf w) = s.cfg.number ↔ bits w 19 6 = own.val := by
  rw [hown, Option.some.injEq, Fin.ext_iff, originOf_val]

/-! ### The words of a message (R94, R95) -/

theorem State.forwardWord_strip (h : m.path = .strip ∨ m.path = .cutOff) (last : Bool) :
    s.forwardWord m.path w last = (s.setRing (s.ring.emit .idle), m.path) := by
  rcases h with h | h <;> rw [h] <;> rfl

theorem State.forwardWord_cutThrough (h : m.path = .cutThrough) (last : Bool) :
    s.forwardWord m.path w last = (s.setRing (s.ring.emit (.data w)), .cutThrough) := by
  rw [h]
  rfl

theorem State.forwardWord_stored (h : m.path = .buffered) (hroom : s.ring.buffer.length < 64) (last : Bool) :
    s.forwardWord m.path w last = (s.setRing (({ s.ring with buffer := s.ring.buffer ++ [⟨w, last⟩] } : Ring).emit .idle),
      .buffered) := by
  rw [h]
  exact if_neg fun hfull => absurd (of_decide_eq_true hfull) (Nat.not_le.2 hroom)

theorem State.forwardWord_full (h : m.path = .buffered) (hfull : 64 ≤ s.ring.buffer.length) (last : Bool) :
    s.forwardWord m.path w last =
      ((s.setRing (s.ring.endBuffered.emit .idle)).count Counters.incPartial, .cutOff) := by
  rw [h]
  exact if_pos (decide_eq_true hfull)


theorem Ring.emit_handOff (r : Ring) (x : Symbol) : (r.emit x).handOff = r.handOff := (r.emit_outStep x).handOff

theorem Ring.endBuffered_handOff (r : Ring) : r.endBuffered.handOff = r.handOff := by
  unfold Ring.endBuffered
  split <;> rfl

/-- What a message in arrival collects from its word 1 on (R93). -/
theorem State.selectAt_eq {c : Collect} (hkeep : m.collect ≠ .undecided → c = m.collect)
    (hcopy : m.collect = .undecided → c = .copy ∨ c = .no)
    (hiff : m.collect = .undecided → (c = .copy ↔ ∃ (k : Fin 32) (e : ListenEntry), s.listens[k] = some e ∧
      e.source.station = originOf (m.words.getD 0 0) ∧ e.source.index.val = bits w 27 5)) : s.selectAt m w = c := by
  unfold State.selectAt
  cases hc : m.collect with
  | no | copy | checkCopy => exact ((hkeep (by rw [hc]; nofun)).trans hc).symm
  | undecided =>
    specialize hcopy hc
    specialize hiff hc
    have hfound : ∀ h : bits w 27 5 < 24, (s.findListen ⟨originOf (copyWord m.words 0), ⟨bits w 27 5, h⟩⟩).isSome = true ↔
        c = .copy := fun h => by
      rw [hiff, Option.isSome_iff_ne_none, Ne, State.findListen_eq_none_iff]
      push Not
      refine exists_congr fun k => exists_congr fun e => and_congr_right fun _ => ⟨fun hsource => ?_, fun ⟨hst, hindex⟩ => ?_⟩
      · rw [hsource]
        exact ⟨rfl, rfl⟩
      · cases hsource : e.source with
        | mk st i =>
          rw [hsource] at hst hindex
          exact Remote.mk.injEq .. ▸ ⟨hst, Fin.ext hindex⟩
    dsimp only
    split
    case isTrue h =>
      by_cases hyes : c = .copy
      · rw [if_pos ((hfound h).2 hyes), hyes]
      · rw [if_neg (mt (hfound h).1 hyes), hcopy.resolve_left hyes]
    case isFalse h =>
      refine (hcopy.resolve_left fun hyes => ?_).symm
      obtain ⟨k, e, -, -, hindex⟩ := hiff.1 hyes
      exact h (hindex ▸ e.source.index.isLt)

/-- A word of a message that is not its last. -/
theorem State.takeBody_of_more {c : Collect} (hc : s.selectAt m w = c) (hleft : 1 < m.left) : s.takeBody m w =
    (s.forwardWord m.path w false).1.setRing { (s.forwardWord m.path w false).1.ring with
      framing := .message ⟨m.left - 1, (s.forwardWord m.path w false).2, c, m.words ++ [w]⟩ } := by
  have hlast : decide (m.left ≤ 1) = false := decide_eq_false (Nat.not_le.2 hleft)
  unfold State.takeBody
  dsimp only
  rw [hc, hlast]
  rfl

/-- The last word of a message. -/
theorem State.takeBody_of_last {c : Collect} (hc : s.selectAt m w = c) (hleft : m.left ≤ 1) : s.takeBody m w =
    ((s.forwardWord m.path w true).1.setRing { (s.forwardWord m.path w true).1.ring with framing := .between }).completeCopy c
      (m.words ++ [w]) := by
  have hlast : decide (m.left ≤ 1) = true := decide_eq_true hleft
  unfold State.takeBody
  dsimp only
  rw [hc, hlast]
  rfl

/-- The state after the last word of a message, with the commands that its copy hands over. -/
def State.messageEnded (s : State) (r : Ring) (hand : List Instr) (cs : Counters) : State :=
  { s with ring := { r with framing := .between, handOff := s.ring.handOff ++ hand }, counters := cs }

/-- The completion of a message by what it collected (R94). -/
theorem State.takeBody_ends {c : Collect} {r : Ring} {cs : Counters} (hc : s.selectAt m w = c) (hleft : m.left ≤ 1)
    (hforward : (s.forwardWord m.path w true).1 = { s with ring := r, counters := cs }) (hhand : r.handOff = s.ring.handOff) :
    (c = .no → s.takeBody m w = s.messageEnded r [] cs) ∧
    (c = .copy ∨ c = .checkCopy → copyGood (m.words ++ [w]) = false →
      s.takeBody m w = s.messageEnded r [] { cs with check := satInc cs.check }) ∧
    (c = .copy → copyGood (m.words ++ [w]) = true → ∀ i, copyCommand (m.words ++ [w]) = some i →
      s.takeBody m w = s.messageEnded r [i] cs) ∧
    (c = .copy → copyGood (m.words ++ [w]) = true → copyCommand (m.words ++ [w]) = none →
      s.takeBody m w = s.messageEnded r [] { cs with ringIgnored := satInc cs.ringIgnored }) ∧
    (c = .checkCopy → copyGood (m.words ++ [w]) = true →
      s.takeBody m w = s.messageEnded r [checkCopyCommand (m.words ++ [w])] cs) := by
  rw [State.takeBody_of_last hc hleft, hforward]
  generalize m.words ++ [w] = ws
  have hnone : ∀ ds : Counters, s.messageEnded r [] ds = { s with ring := { r with framing := .between }, counters := ds } :=
    fun ds => by rw [State.messageEnded, List.append_nil, ← hhand]
  have hsome : ∀ i : Instr, s.messageEnded r [i] cs =
      { s with ring := { r with framing := .between, handOff := r.handOff ++ [i] }, counters := cs } :=
    fun i => by rw [State.messageEnded, ← hhand]
  refine ⟨fun h => ?_, fun h hbad => ?_, fun h hgood i hi => ?_, fun h hgood hi => ?_, fun h hgood => ?_⟩
  · rw [h, hnone]
    rfl
  · rw [hnone]
    rcases h with h | h <;> rw [h, State.completeCopy, hbad] <;> rfl
  · rw [h, hsome, State.completeCopy, hgood, hi]
    rfl
  · rw [h, hnone, State.completeCopy, hgood, hi]
    rfl
  · rw [h, hsome, State.completeCopy, hgood]
    rfl

end Sys2Proof.Machine

namespace Sys2Proof.Proofs

open Sys2Proof.Machine

/-- Settles O49: the header by its length, its origin, its hop count and what holds ring-out. -/
theorem headersAreClassified : Obligations.HeadersAreClassified := by
  intro s w own ha hmode hup hf hown
  have hexec : exec (.messageHeader w) s = .next (s.takeHeader w) :=
    congrArg Host.Outcome.next (State.dataWord_of_between ha hmode hup hf)
  refine ⟨fun hbad => ?_, fun hlow hhigh => ⟨fun horigin => ?_, fun horigin hhop => ?_, fun horigin hhop => ⟨fun hfree => ?_,
    fun hheld hroom => ?_, fun hheld hfull => ?_⟩⟩⟩
  · exact hexec.trans (congrArg _ (if_pos hbad))
  all_goals
    have hgood : ¬ (lengthOf w < 3 ∨ 51 < lengthOf w) := not_or.2 ⟨Nat.not_lt.2 hlow, Nat.not_lt.2 hhigh⟩
  · refine hexec.trans (congrArg _ ((if_neg hgood).trans (if_pos ((State.origin_eq_iff hown w).2 horigin))))
  all_goals
    have hexec := hexec.trans (congrArg _ ((if_neg hgood).trans (if_neg (mt (State.origin_eq_iff hown w).1 horigin))))
    rw [hopOf_val] at hexec
  · exact hexec.trans (congrArg _ (if_pos hhop))
  all_goals
    have hexec := hexec.trans (congrArg _ (if_neg (Nat.not_le.2 hhop)))
  · obtain ⟨hinsertion, hbuffer, hgap⟩ := Ring.not_holding hfree
    refine hexec.trans (congrArg _ ((if_neg (mt Ring.holding_iff.1 hfree)).trans ?_))
    rw [withHop_succ hhop, State.collectAt_eq hown]
    exact congrArg s.setRing (Ring.emit_of_free (r := { s.ring with framing := Arrival.opened w .cutThrough _ })
      hinsertion hbuffer hgap _)
  · refine hexec.trans (congrArg _ ((if_pos (Ring.holding_iff.2 hheld)).trans ((if_neg ?_).trans ?_)))
    · exact fun hfull => absurd (of_decide_eq_true hfull) (Nat.not_le.2 hroom)
    · rw [withHop_succ hhop, State.collectAt_eq hown]
      rfl
  · refine hexec.trans (congrArg _ ((if_pos (Ring.holding_iff.2 hheld)).trans ((if_pos ?_).trans ?_)))
    · exact decide_eq_true hfull
    · rw [State.collectAt_eq hown]
      rfl

/-- Settles O50: ring-in by its alignment, the bypass, the status and the framing; the message in arrival by its path. -/
theorem messageWordsAreForwarded : Obligations.MessageWordsAreForwarded := by
  refine ⟨fun s w => ⟨rfl, fun ha => ⟨?_, ?_⟩, fun ha hmode => ⟨?_, ?_⟩, fun ha hmode => ⟨fun hdown => ⟨?_, ?_⟩,
    fun hup => ⟨fun hf => ?_, fun hf => ?_, fun m hf => ⟨?_, fun c hkeep hcopy hiff => ?_⟩⟩⟩⟩,
    fun r => ⟨Ring.endBuffered_of_nil, fun pre h => Ring.endBuffered_of_append⟩⟩
  · exact congrArg _ (State.dataWord_of_unaligned ha)
  · exact congrArg _ (State.idleSymbol_of_unaligned ha)
  · exact congrArg _ (State.dataWord_of_closed ha hmode)
  · exact congrArg _ (State.idleSymbol_of_closed ha hmode)
  · exact congrArg _ (State.dataWord_of_down ha hmode hdown)
  · exact congrArg _ (State.idleSymbol_of_down ha hmode hdown)
  · exact congrArg _ (State.dataWord_of_skipping ha hmode hup hf)
  · refine congrArg _ ((State.idleSymbol_of_up ha hmode hup).trans ?_)
    rw [State.cutMessage_of_none hf]
    rfl
  · have hidle : s.idleSymbol = _ := (State.idleSymbol_of_up ha hmode hup).trans
      (by rw [State.cutMessage_of_message hf])
    have hcut : exec (.messageCutShort true) s = .next s.idleSymbol :=
      congrArg _ (if_pos (by rw [hf]; rfl))
    intro x hx
    simp only [List.mem_cons, List.not_mem_nil, or_false] at hx
    rcases hx with rfl | rfl
    · exact congrArg _ hidle
    · exact hcut.trans (congrArg _ hidle)
  · have hselect := State.selectAt_eq hkeep hcopy hiff
    have hexec : exec (.messageWordArrival w) s = .next (s.takeBody m w) :=
      congrArg Host.Outcome.next (State.dataWord_of_message ha hmode hup hf)
    refine ⟨fun hleft => ?_, fun hleft => ?_⟩
    · have hmore := hexec.trans (congrArg Host.Outcome.next (State.takeBody_of_more hselect hleft))
      refine ⟨fun hpath => ?_, fun hpath => ?_, fun hpath hroom => ?_, fun hpath hfull => ?_⟩
      · rw [State.forwardWord_strip hpath] at hmore
        exact hmore
      · rw [State.forwardWord_cutThrough hpath] at hmore
        exact hmore
      · rw [State.forwardWord_stored hpath hroom] at hmore
        exact hmore
      · rw [State.forwardWord_full hpath hfull] at hmore
        exact hmore
    · intro full r cs ends
      have hforward : (s.forwardWord m.path w true).1 = { s with ring := r, counters := cs } ∧ r.handOff = s.ring.handOff := by
        cases hpath : m.path with
        | strip =>
          have hr : r = s.ring.emit .idle := by simp only [r, hpath]
          have hcs : cs = s.counters := by simp [cs, hpath]
          rw [← hpath, State.forwardWord_strip (.inl hpath), hr, hcs]
          exact ⟨rfl, Ring.emit_handOff ..⟩
        | cutOff =>
          have hr : r = s.ring.emit .idle := by simp only [r, hpath]
          have hcs : cs = s.counters := by simp [cs, hpath]
          rw [← hpath, State.forwardWord_strip (.inr hpath), hr, hcs]
          exact ⟨rfl, Ring.emit_handOff ..⟩
        | cutThrough =>
          have hr : r = s.ring.emit (.data w) := by simp only [r, hpath]
          have hcs : cs = s.counters := by simp [cs, hpath]
          rw [← hpath, State.forwardWord_cutThrough hpath, hr, hcs]
          exact ⟨rfl, Ring.emit_handOff ..⟩
        | buffered =>
          by_cases hfull : 64 ≤ s.ring.buffer.length
          · have hr : r = s.ring.endBuffered.emit .idle := by simp [r, full, hpath, hfull]
            have hcs : cs = { s.counters with partialCopies := satInc s.counters.partialCopies } := by
              simp [cs, full, hpath, hfull]
            rw [← hpath, State.forwardWord_full hpath hfull, hr, hcs]
            exact ⟨rfl, (Ring.emit_handOff ..).trans (Ring.endBuffered_handOff _)⟩
          · have hr : r = ({ s.ring with buffer := s.ring.buffer ++ [⟨w, true⟩] } : Ring).emit .idle := by
              simp [r, full, hpath, hfull]
            have hcs : cs = s.counters := by simp [cs, full, hfull]
            rw [← hpath, State.forwardWord_stored hpath (Nat.lt_of_not_le hfull), hr, hcs]
            exact ⟨rfl, Ring.emit_handOff ..⟩
      obtain ⟨hno, hbad, hcopied, hignored, hchecked⟩ := State.takeBody_ends hselect hleft hforward.1 hforward.2
      exact ⟨fun h => hexec.trans (congrArg _ (hno h)), fun h hw => hexec.trans (congrArg _ (hbad h hw)),
        fun h hw i hi => hexec.trans (congrArg _ (hcopied h hw i hi)), fun h hw hi => hexec.trans (congrArg _ (hignored h hw hi)),
        fun h hw => hexec.trans (congrArg _ (hchecked h hw))⟩

end Sys2Proof.Proofs

/-!
SUPPORT. Ring-out, the selection of a message for insertion, and its end (R96 to R98, R136 to R139).
-/

namespace Sys2Proof.Machine

variable {s : State} {r : Ring}

/-! ### The tests of a class queue (R136 to R138) -/

/-- A burst that waited too long (R137). -/
def Burst.late (x : Burst) : Prop := 4 ≤ x.age

/-- A burst that is not late, but no newer than the last one of its source (R138). -/
def Burst.stale (last : Vector (Option LastInserted) 24) (x : Burst) : Prop :=
  x.age < 4 ∧ (last[x.source].map fun r => decide (serialDiff x.seq r.seq ≤ 0)) = some true

/-- The counters after the bursts `gone` were discarded. -/
def Counters.discarding (cs : Counters) (last : Vector (Option LastInserted) 24) (gone : List Burst) : Counters := { cs with
  lateTx := Nat.repeat satInc (gone.countP fun x => decide (4 ≤ x.age)) cs.lateTx
  stale := Nat.repeat satInc (gone.countP fun x => decide (x.age < 4 ∧
    (last[x.source].map fun r => decide (serialDiff x.seq r.seq ≤ 0)) = some true)) cs.stale }

section
variable {last : Vector (Option LastInserted) 24}

theorem passesStale_eq {x : Burst} (h : x.age < 4) : passesStale last[x.source] x.seq = true ↔ ¬ x.stale last := by
  unfold passesStale Burst.stale
  cases last[x.source] with
  | none => simp
  | some r => simp [h]

theorem repeat_add {α : Type} (f : α → α) (a : Nat) (x : α) : ∀ b : Nat,
    Nat.repeat f (b + a) x = Nat.repeat f b (Nat.repeat f a x)
  | 0 => by rw [Nat.zero_add, Nat.repeat]
  | b + 1 => by rw [Nat.succ_add, Nat.repeat, Nat.repeat, repeat_add f a x b]

theorem Counters.discarding_append (cs : Counters) (l k : List Burst) :
    cs.discarding last (l ++ k) = (cs.discarding last l).discarding last k := by
  unfold Counters.discarding
  rw [List.countP_append, List.countP_append, Nat.add_comm, Nat.add_comm (l.countP _), repeat_add, repeat_add]

theorem Counters.discarding_late {x : Burst} (h : x.late) (cs : Counters) : cs.discarding last [x] = cs.incLateTx := by
  have hnot : ¬ x.age < 4 := Nat.not_lt.2 h
  have hlate : 4 ≤ x.age := h
  simp [Counters.discarding, hnot, hlate, Nat.repeat, Counters.incLateTx]

theorem Counters.discarding_stale {x : Burst} (h : x.stale last) (cs : Counters) : cs.discarding last [x] = cs.incStale := by
  obtain ⟨hage, hlast⟩ := h
  have hnot : ¬ 4 ≤ x.age := Nat.not_le.2 hage
  simp only [Counters.discarding, List.countP_cons, List.countP_nil, hlast, hage, hnot, and_self, decide_true, decide_false]
  rfl

theorem takeBurstFrom_of_discarded {l : List Burst} (h : ∀ x ∈ l, x.late ∨ x.stale last) (k : List Burst) : ∀ cs : Counters,
    takeBurstFrom last (l ++ k) cs = takeBurstFrom last k (cs.discarding last l) := by
  induction l with
  | nil => exact fun cs => rfl
  | cons x l ih =>
    intro cs
    obtain ⟨hx, hl⟩ := List.forall_mem_cons.1 h
    rw [← List.singleton_append (l := l), Counters.discarding_append, List.append_assoc, List.singleton_append, takeBurstFrom]
    by_cases hlate : x.late
    · rw [if_pos (show 4 ≤ x.age from hlate), ih hl, Counters.discarding_late hlate]
    · have hstale := hx.resolve_left hlate
      rw [if_neg (show ¬ 4 ≤ x.age from hlate), if_neg fun hpass => (passesStale_eq hstale.1).1 hpass hstale,
        ih hl, Counters.discarding_stale hstale]

theorem takeBurstFrom_of_good {b : Burst} (hlate : ¬ b.late) (hstale : ¬ b.stale last) (l : List Burst) (cs : Counters) :
    takeBurstFrom last (b :: l) cs = (some b, l, cs) := by
  rw [takeBurstFrom, if_neg (show ¬ 4 ≤ b.age from hlate), if_pos ((passesStale_eq (Nat.lt_of_not_le hlate)).2 hstale)]

end

/-! ### The selection over the class queues (R136) -/

/-- The state after every burst of the classes `ds` was discarded. -/
def State.withoutClasses (s : State) (ds : List Cls) : State := { s with
  sched := { s.sched with queues := Vector.ofFn fun d => if d ∈ ds then [] else s.sched.queues[d] }
  counters := s.counters.discarding s.sched.last (ds.flatMap fun c => s.sched.queues[c]) }

theorem State.withoutClasses_queues (s : State) (ds : List Cls) (d : Cls) :
    (s.withoutClasses ds).sched.queues[d] = if d ∈ ds then [] else s.sched.queues[d] := by
  simp [State.withoutClasses]

theorem State.withoutClasses_cons (s : State) {c : Cls} {ds : List Cls} (h : c ∉ ds) :
    (s.withoutClasses [c]).withoutClasses ds = s.withoutClasses (c :: ds) := by
  have hget : ∀ d : Cls, (s.withoutClasses [c]).sched.queues[d] = if d = c then [] else s.sched.queues[d] := fun d => by
    rw [State.withoutClasses_queues]
    exact if_congr List.mem_singleton rfl rfl
  have hqueues : (Vector.ofFn fun d => if d ∈ ds then [] else (s.withoutClasses [c]).sched.queues[d]) =
      Vector.ofFn fun d => if d ∈ c :: ds then [] else s.sched.queues[d] := by
    refine congrArg Vector.ofFn (funext fun d => ?_)
    rw [hget]
    by_cases hd : d ∈ ds
    · rw [if_pos hd, if_pos (List.mem_cons_of_mem _ hd)]
    · by_cases hc : d = c
      · rw [if_neg hd, if_pos hc, if_pos (List.mem_cons.2 (.inl hc))]
      · rw [if_neg hd, if_neg hc, if_neg fun hmem => (List.mem_cons.1 hmem).elim hc hd]
  have hflat : (ds.flatMap fun d => (s.withoutClasses [c]).sched.queues[d]) = ds.flatMap fun d => s.sched.queues[d] :=
    List.flatMap_congr fun d hd => by rw [hget, if_neg fun heq : d = c => h (heq ▸ hd)]
  have hcounters : (s.withoutClasses [c]).counters = s.counters.discarding s.sched.last s.sched.queues[c] :=
    congrArg (s.counters.discarding s.sched.last) (List.append_nil _)
  have hall : (s.withoutClasses [c]).counters.discarding s.sched.last (ds.flatMap fun d => (s.withoutClasses [c]).sched.queues[d]) =
      s.counters.discarding s.sched.last ((c :: ds).flatMap fun d => s.sched.queues[d]) := by
    rw [hcounters, hflat, List.flatMap_cons, Counters.discarding_append]
  refine Eq.trans ?_ (congrArg₂ (fun queues counters => ({ s with sched := { s.sched with queues }, counters } : State)) hqueues hall)
  rfl

theorem State.selectBurst_of_discarded : ∀ {ds : List Cls} {s : State}, ds.Nodup →
    (∀ d ∈ ds, ∀ x ∈ s.sched.queues[d], x.late ∨ x.stale s.sched.last) → ∀ rest : List Cls,
    State.selectBurst (ds ++ rest) s = State.selectBurst rest (s.withoutClasses ds) := by
  intro ds
  induction ds with
  | nil =>
    intro s _ _ rest
    have hnil : s.withoutClasses [] = s := by
      have hqueues : (Vector.ofFn fun d => if d ∈ ([] : List Cls) then [] else s.sched.queues[d]) = s.sched.queues :=
        Vector.ext fun d hd => Vector.getElem_ofFn ..
      rw [State.withoutClasses, hqueues]
      rfl
    rw [hnil]
    rfl
  | cons c ds ih =>
    intro s hnodup h rest
    obtain ⟨hc, hds⟩ := List.nodup_cons.1 hnodup
    obtain ⟨hfirst, hrest⟩ := List.forall_mem_cons.1 h
    have htaken : takeBurstFrom s.sched.last s.sched.queues[c] s.counters =
        (none, [], s.counters.discarding s.sched.last s.sched.queues[c]) := by
      have hall := takeBurstFrom_of_discarded hfirst [] s.counters
      rwa [List.append_nil] at hall
    have hleft : ({ s with
        sched := { s.sched with queues := s.sched.queues.set c [] }
        counters := s.counters.discarding s.sched.last s.sched.queues[c] } : State) = s.withoutClasses [c] := by
      have hqueues : s.sched.queues.set c [] = Vector.ofFn fun d => if d ∈ [c] then [] else s.sched.queues[d] :=
        Vector.ext fun d hd => by
          have hget := vector_set_getElem s.sched.queues c ⟨d, hd⟩ []
          rw [Vector.getElem_ofFn]
          refine hget.trans (if_congr ?_ rfl rfl)
          exact Iff.trans eq_comm List.mem_singleton.symm
      rw [State.withoutClasses, ← hqueues, List.flatMap_cons, List.flatMap_nil, List.append_nil]
    rw [List.cons_append, State.selectBurst, htaken]
    dsimp only
    rw [hleft, ih hds (fun d hd x hx => ?_), State.withoutClasses_cons s hc]
    have hne : d ∉ [c] := fun hmem => hc (List.mem_singleton.1 hmem ▸ hd)
    rw [State.withoutClasses_queues, if_neg hne] at hx
    exact hrest d hd x hx

theorem State.selectBurst_of_good {c : Cls} {pre : List Burst} {b : Burst} {post : List Burst}
    (hqueue : s.sched.queues[c] = pre ++ b :: post) (hpre : ∀ x ∈ pre, x.late ∨ x.stale s.sched.last)
    (hlate : ¬ b.late) (hstale : ¬ b.stale s.sched.last) (rest : List Cls) :
    State.selectBurst (c :: rest) s = (some (.burst b), { s with
      sched := { s.sched with queues := s.sched.queues.set c post }
      counters := s.counters.discarding s.sched.last pre }) := by
  rw [State.selectBurst, hqueue, takeBurstFrom_of_discarded hpre, takeBurstFrom_of_good hlate hstale]

theorem State.select_of_discarded (hnotes : s.sched.notes = [])
    (h : ∀ c : Cls, ∀ x ∈ s.sched.queues[c], x.late ∨ x.stale s.sched.last) :
    s.select = (none, { s with
      sched := { s.sched with queues := Vector.replicate 4 [] }
      counters := s.counters.discarding s.sched.last ((List.finRange 4).flatMap fun c => s.sched.queues[c]) }) := by
  have hqueues : (Vector.ofFn fun d : Cls => if d ∈ List.finRange 4 then [] else s.sched.queues[d]) = Vector.replicate 4 [] :=
    Vector.ext fun d hd => by simp
  have hall := State.selectBurst_of_discarded (s := s) (List.nodup_finRange 4) (fun d _ => h d) []
  rw [List.append_nil, State.withoutClasses, hqueues] at hall
  rw [State.select, hnotes]
  exact hall

/-- The class queues once `post` is left in the one of class `c`, those above it being empty. -/
def restQueues (v : Vector (List Burst) 4) (c : Cls) (post : List Burst) : Vector (List Burst) 4 :=
  Vector.ofFn fun d => if d < c then [] else if d = c then post else v[d]

theorem finRange_split : ∀ c : Cls, List.finRange 4 =
    ((List.finRange 4).filter fun d => d < c) ++ c :: (List.finRange 4).filter fun d => c < d := by
  decide

theorem State.select_of_good {c : Cls} {pre : List Burst} {b : Burst} {post : List Burst} (hnotes : s.sched.notes = [])
    (hqueue : s.sched.queues[c] = pre ++ b :: post)
    (habove : ∀ d < c, ∀ x ∈ s.sched.queues[d], x.late ∨ x.stale s.sched.last)
    (hpre : ∀ x ∈ pre, x.late ∨ x.stale s.sched.last) (hlate : ¬ b.late) (hstale : ¬ b.stale s.sched.last) :
    s.select = (some (.burst b), { s with
      sched := { s.sched with queues := restQueues s.sched.queues c post }
      counters := s.counters.discarding s.sched.last
        ((((List.finRange 4).filter fun d => d < c).flatMap fun d => s.sched.queues[d]) ++ pre) }) := by
  have hnodup : ((List.finRange 4).filter fun d => d < c).Nodup := (List.nodup_finRange 4).filter _
  have hmem : ∀ d : Cls, d ∈ ((List.finRange 4).filter fun d => d < c) ↔ d < c := fun d => by simp
  rw [State.select, hnotes]
  refine (congrArg (State.selectBurst · s) (finRange_split c)).trans ?_
  dsimp only
  generalize ((List.finRange 4).filter fun d => d < c) = above at hmem hnodup ⊢
  have hqueues : (s.withoutClasses above).sched.queues.set c post = restQueues s.sched.queues c post :=
    Vector.ext fun d hd => by
      have hset := vector_set_getElem (s.withoutClasses above).sched.queues c ⟨d, hd⟩ post
      have hget := s.withoutClasses_queues above ⟨d, hd⟩
      rw [if_congr (hmem _) rfl rfl] at hget
      refine hset.trans ?_
      rw [restQueues, Vector.getElem_ofFn]
      by_cases hc : c = ⟨d, hd⟩
      · rw [if_pos hc, if_neg (hc ▸ lt_irrefl c), if_pos hc.symm]
      · rw [if_neg hc, if_neg (Ne.symm hc)]
        exact hget
  have hat : (s.withoutClasses above).sched.queues[c] = pre ++ b :: post := by
    rw [State.withoutClasses_queues, if_neg fun hc => absurd ((hmem c).1 hc) (lt_irrefl c), hqueue]
  rw [State.selectBurst_of_discarded hnodup fun d hd => habove d ((hmem d).1 hd),
    State.selectBurst_of_good hat hpre hlate hstale, hqueues, Counters.discarding_append]
  rfl

/-! ### The begin of an insertion (R96, R97) -/

theorem State.mayInsert_iff : s.mayInsert = true ↔ s.mode = .active ∧ s.ring.status = .up ∧ s.ring.insertion = none ∧
    s.ring.buffer = [] ∧ s.ring.gapOwed = false ∧ s.ring.out = .idle := by
  have hholding : (!s.ring.holding) = true ↔ s.ring.insertion = none ∧ s.ring.buffer = [] ∧ s.ring.gapOwed = false := by
    simp [Ring.holding, and_assoc]
  unfold State.mayInsert
  rw [Bool.and_eq_true, Bool.and_eq_true, Bool.and_eq_true, hholding, beq_iff_eq, beq_iff_eq, beq_iff_eq]
  tauto

theorem exec_insertionStart_of_not (h : ¬ s.mayInsert = true) : exec .insertionStart s = .next s :=
  congrArg Host.Outcome.next (if_neg h)

theorem exec_insertionStart_of_none {t : State} (h : s.mayInsert = true) (hselect : s.select = (none, t)) :
    exec .insertionStart s = .next t := by
  rw [exec, execInsertionStart, if_pos h, hselect]

theorem exec_insertionStart_of_some {t : State} {m : Message} {own : Station} (hown : s.cfg.number = some own)
    (h : s.mayInsert = true) (hselect : s.select = (some m, t)) (hring : t.ring = s.ring) :
    exec .insertionStart s = .next { t with
      ring := { s.ring with insertion := some ⟨m, (m.words own).map Symbol.data ++ [.idle, .idle]⟩ } } := by
  rw [exec, execInsertionStart, if_pos h, hselect, ← hring, ← State.ownStation_of_some hown]
  rfl

/-! ### The end of an insertion, and the emptied buffer (R97, R98) -/

theorem exec_insertionEnd_of_none (h : s.ring.insertion = none) : exec .insertionEnd s = .next s := by
  rw [exec, execInsertionEnd, h]

theorem exec_insertionEnd_of_some {m : Message} {l : List Symbol} (h : s.ring.insertion = some ⟨m, l⟩) :
    exec .insertionEnd s =
      .next ((s.setRing { s.ring with insertion := none, out := .idle, swept := l }).recordInserted m) := by
  rw [exec, execInsertionEnd, h]

theorem exec_insertionBufferEmpty_of (hnone : s.ring.insertion = none) (hheld : s.ring.buffer ≠ [] ∨ s.ring.gapOwed = true)
    (hframing : ∀ m, s.ring.framing = .message m → m.path ≠ .buffered) :
    exec .insertionBufferEmpty s =
      .next { s with ring := { s.ring with buffer := [], gapOwed := false, out := .idle, swept := s.ring.buffered } } := by
  have hholding : s.ring.holding = true := Ring.holding_iff.2 (.inr hheld)
  exact congrArg Host.Outcome.next (if_pos ⟨hnone ▸ rfl, hholding, by
    rw [Framing.not_buffering hframing]; exact Bool.false_ne_true⟩)

end Sys2Proof.Machine

namespace Sys2Proof.Proofs

open Sys2Proof.Machine

/-- Settles O51. -/
theorem insertionsBeginAndEnd : Obligations.InsertionsBeginAndEnd := by
  refine ⟨fun r x => ⟨fun hins hgap hbuf => ?_, fun hins hgap => ?_, fun h hs hins hgap hbuf => ?_, fun m y ys hins => ?_,
    fun m hins => ?_⟩, fun s own hown => ?_, fun s => ⟨exec_insertionEnd_of_none, fun n l => exec_insertionEnd_of_some,
    fun b l => exec_insertionEnd_of_some, fun hnone hheld hframing => ?_, fun hidle => ?_, fun m hframing hpath => ?_⟩⟩
  · simp [Ring.emit, hins, hgap, hbuf]
  · simp [Ring.emit, hins, hgap]
  · simp [Ring.emit, hins, hgap, hbuf]
  · simp [Ring.emit, hins]
  · simp [Ring.emit, hins]
  · intro late stale counted begins
    refine ⟨fun hnot => exec_insertionStart_of_not fun hmay => ?_, fun hactive hup hnone hbuf hgap hout => ?_⟩
    · obtain ⟨hactive, hup, hnone, hbuf, hgap, hout⟩ := State.mayInsert_iff.1 hmay
      simp [hactive, hup, hnone, hbuf, hgap, hout] at hnot
    · have hmay := State.mayInsert_iff.2 ⟨hactive, hup, hnone, hbuf, hgap, hout⟩
      refine ⟨fun n ns hnotes => ?_, fun hnotes hempty => ?_, fun hnotes hall => ?_,
        fun c pre b post hnotes hqueue habove hpre hlate hstale => ?_⟩
      · have hselect : s.select = (some (.note n), { s with sched := { s.sched with notes := ns } }) := by
          rw [State.select, hnotes]
        exact exec_insertionStart_of_some hown hmay hselect rfl
      · have hselect := State.select_of_discarded hnotes fun c x hx => by
          rw [hempty c] at hx
          exact absurd hx List.not_mem_nil
        have hflat : ((List.finRange 4).flatMap fun c => s.sched.queues[c]) = [] :=
          List.flatMap_eq_nil_iff.2 fun c _ => hempty c
        have hqueues : Vector.replicate 4 [] = s.sched.queues := Vector.ext fun d hd => by
          rw [Vector.getElem_replicate]
          exact (hempty ⟨d, hd⟩).symm
        rw [hflat, hqueues] at hselect
        exact exec_insertionStart_of_none hmay hselect
      · exact exec_insertionStart_of_none hmay (State.select_of_discarded hnotes hall)
      · exact exec_insertionStart_of_some hown hmay (State.select_of_good hnotes hqueue habove hpre hlate hstale) rfl
  · exact exec_insertionBufferEmpty_of hnone hheld hframing
  · refine congrArg Host.Outcome.next (if_neg fun ⟨hnone, hheld, _⟩ => ?_)
    rcases hidle with hsome | ⟨hbuf, hgap⟩
    · exact absurd hnone (Option.ne_none_iff_isSome.2 hsome ∘ Option.isNone_iff_eq_none.1)
    · rcases Ring.holding_iff.1 hheld with hsome | hbuffered | howed
      · exact Option.ne_none_iff_isSome.2 hsome (Option.isNone_iff_eq_none.1 hnone)
      · exact hbuffered hbuf
      · exact Bool.false_ne_true (hgap.symm.trans howed)
  · refine congrArg Host.Outcome.next (if_neg fun ⟨_, _, hbuffering⟩ => hbuffering ?_)
    rw [hframing]
    exact Framing.buffering_message.2 hpath

end Sys2Proof.Proofs

/-!
SUPPORT. The words of an inserted message read back (R94, R97, "Word layouts").
-/

namespace Sys2Proof.Machine

/-! ### The header -/

theorem headerWord_toNat (note : Bool) (origin target : Station) {length kind : Nat} (hlength : length < 64) (hkind : kind < 8) :
    (headerWord note origin length kind target).toNat =
      note.toNat * 2 ^ 31 + origin.val * 2 ^ 19 + length * 2 ^ 13 + kind * 2 ^ 10 + target.val * 2 ^ 4 := by
  have hnote : (if note then 2 ^ 31 else 0) = note.toNat * 2 ^ 31 := by cases note <;> rfl
  have hone := note.toNat_lt
  have horigin := origin.isLt
  have htarget := target.isLt
  rw [headerWord, hnote]
  exact word_toNat_of_lt (by omega)

/-- The header of a message as it is read: a note or not, its hop count, origin, length, kind and target. -/
structure HeaderReads (w : Word) (note : Bool) (hop : Fin 64) (origin : Station) (length kind : Nat) (target : Station) :
    Prop where
  note : isNote w = note
  hop : hopOf w = hop
  origin : originOf w = origin
  length : lengthOf w = length
  kind : kindOf w = kind
  target : targetOf w = target

theorem headerReads_of_toNat {w : Word} {note : Bool} {hop : Fin 64} {origin target : Station} {length kind : Nat}
    (hlength : length < 64) (hkind : kind < 8)
    (hw : w.toNat = note.toNat * 2 ^ 31 + hop.val * 2 ^ 25 + origin.val * 2 ^ 19 + length * 2 ^ 13 + kind * 2 ^ 10 +
      target.val * 2 ^ 4) : HeaderReads w note hop origin length kind target := by
  have hhop := hop.isLt
  have horigin := origin.isLt
  have htarget := target.isLt
  refine ⟨?_, Fin.ext ?_, Fin.ext ?_, ?_, ?_, Fin.ext ?_⟩
  · rw [isNote, BitVec.msb_eq_decide, hw]
    cases note with
    | true => exact decide_eq_true (by rw [Bool.toNat_true]; omega)
    | false => exact decide_eq_false (by rw [Bool.toNat_false]; omega)
  · rw [hopOf_val, bits_eq, hw]
    omega
  · rw [originOf_val, bits_eq, hw]
    omega
  · rw [lengthOf, bits_eq, hw]
    omega
  · rw [kindOf, bits_eq, hw]
    omega
  · rw [targetOf_val, bits_eq, hw]
    omega

theorem headerReads_withHop (note : Bool) (hop : Fin 64) (origin : Station) {length kind : Nat} (target : Station)
    (hlength : length < 64) (hkind : kind < 8) :
    HeaderReads (withHop (headerWord note origin length kind target) hop.val) note hop origin length kind target := by
  have horigin := origin.isLt
  have htarget := target.isLt
  refine headerReads_of_toNat hlength hkind ?_
  rw [withHop_toNat _ hop.isLt, headerWord_toNat note origin target hlength hkind]
  omega

theorem lengthOf_headerWord (note : Bool) (origin target : Station) {length kind : Nat} (hlength : length < 64) (hkind : kind < 8) :
    lengthOf (headerWord note origin length kind target) = length := by
  have horigin := origin.isLt
  have htarget := target.isLt
  rw [lengthOf, bits_eq, headerWord_toNat note origin target hlength hkind]
  omega

theorem withHop_withHop (w : Word) {h k : Nat} (hh : h < 64) (hk : k < 64) : withHop (withHop w h) k = withHop w k := by
  refine BitVec.eq_of_toNat_eq ?_
  rw [withHop_toNat _ hk, withHop_toNat _ hh, withHop_toNat _ hk]
  omega

theorem checkWord_withHop (h : Word) (hop : Fin 64) (rest : List Word) :
    checkWord (withHop h hop.val :: rest) = checkWord (h :: rest) := by
  rw [checkWord, checkWord, withHop_withHop h hop.isLt (by omega)]

/-! ### The copy of an inserted message -/

/-- The message `ws`, its hop count grown to `hop`, is a good copy of the length its header gives, and the command `i`. -/
def ReadsAs (hop : Fin 64) (ws : List Word) (i : Instr) : Prop :=
  copyGood (withHop (ws.getD 0 0) hop.val :: ws.drop 1) = true ∧ lengthOf (ws.getD 0 0) = ws.length ∧
    copyCommand (withHop (ws.getD 0 0) hop.val :: ws.drop 1) = some i

theorem readsAs_sealed {note : Bool} {hop : Fin 64} {origin target : Station} {kind : Nat} {rest : List Word} {i : Instr}
    (hlength : rest.length + 2 < 64) (hkind : kind < 8)
    (hread : ∀ w check, HeaderReads w note hop origin (rest.length + 2) kind target →
      lengthGood w = true ∧ copyCommand (w :: (rest ++ [check])) = some i) :
    ReadsAs hop (sealed (headerWord note origin (rest.length + 2) kind target :: rest)) i := by
  obtain ⟨hgood, hcommand⟩ := hread _ (checkWord (headerWord note origin (rest.length + 2) kind target :: rest))
    (headerReads_withHop note hop origin target hlength hkind)
  refine ⟨?_, ?_, hcommand⟩
  · refine Bool.and_eq_true_iff.2 ⟨?_, hgood⟩
    have hsealed : crcGood (sealed (withHop (headerWord note origin (rest.length + 2) kind target) hop.val :: rest)) = true := by
      rw [crcGood, sealed, List.getLast?_concat, List.dropLast_concat, decide_eq_true_eq]
    rw [sealed, checkWord_withHop] at hsealed
    exact hsealed
  · rw [sealed, List.length_append, List.length_cons]
    exact lengthOf_headerWord note origin target hlength hkind

/-! ### The fields of the words after the header -/

theorem bits_word {n : Nat} (h : n < 2 ^ 32) (lo k : Nat) : bits (word n) lo k = n / 2 ^ lo % 2 ^ k := by
  rw [bits_eq, word_toNat_of_lt h]

theorem finOfNat_eq {n x : Nat} [NeZero n] {y : Fin n} (h : x % n = y.val) : Fin.ofNat n x = y := Fin.ext h

theorem bitVecOfNat_eq {n x : Nat} {y : BitVec n} (h : x % 2 ^ n = y.toNat) : BitVec.ofNat n x = y :=
  BitVec.eq_of_toNat_eq ((BitVec.toNat_ofNat ..).trans h)

theorem setWidth_signExtend (x : Sample) : (x.signExtend 32).setWidth 24 = x := by
  refine BitVec.eq_of_getLsbD_eq fun i hi => ?_
  rw [BitVec.getLsbD_setWidth, BitVec.getLsbD_signExtend]
  simp [hi, Nat.lt_trans hi (by decide : 24 < 32)]

variable {hop : Fin 64} {own target : Station}

theorem presence_readsAs (stamp : Seq) (l d : BitVec 8) :
    ReadsAs hop (Note.words own ⟨target, .presence stamp l d⟩) (.presence true own target hop stamp l d) := by
  have hstamp := stamp.isLt
  have hl := l.isLt
  have hd := d.isLt
  refine readsAs_sealed (rest := [word (stamp.toNat * 2 ^ 16), word (l.toNat * 2 ^ 8 + d.toNat)]) (by simp) (by decide)
    fun w check h => ⟨by simp [lengthGood, h.note, h.kind, h.length], ?_⟩
  have hstampRead : BitVec.ofNat 16 (bits (word (stamp.toNat * 2 ^ 16)) 16 16) = stamp :=
    bitVecOfNat_eq (by rw [bits_word (by omega)]; omega)
  have hlRead : BitVec.ofNat 8 (bits (word (l.toNat * 2 ^ 8 + d.toNat)) 8 8) = l :=
    bitVecOfNat_eq (by rw [bits_word (by omega)]; omega)
  have hdRead : BitVec.ofNat 8 (bits (word (l.toNat * 2 ^ 8 + d.toNat)) 0 8) = d :=
    bitVecOfNat_eq (by rw [bits_word (by omega)]; omega)
  simp only [copyCommand, copyWord, List.cons_append, List.getD_cons_zero, List.getD_cons_succ, if_true, h.note,
    h.kind, h.origin, h.target, h.hop, hstampRead, hlRead, hdRead]

theorem join_readsAs (n : SourceNo) (c : Cls) :
    ReadsAs hop (Note.words own ⟨target, .join n c⟩) (.join true own target ⟨n.val, by omega⟩ c) := by
  have hn := n.isLt
  have hc := c.isLt
  refine readsAs_sealed (rest := [word (n.val * 2 ^ 27 + c.val * 2 ^ 25)]) (by simp) (by decide)
    fun w check h => ⟨by simp [lengthGood, h.note, h.kind, h.length], ?_⟩
  have hnRead : Fin.ofNat 32 (bits (word (n.val * 2 ^ 27 + c.val * 2 ^ 25)) 27 5) = ⟨n.val, by omega⟩ :=
    finOfNat_eq (by rw [bits_word (by omega)]; dsimp only; omega)
  have hcRead : Fin.ofNat 4 (bits (word (n.val * 2 ^ 27 + c.val * 2 ^ 25)) 25 2) = c :=
    finOfNat_eq (by rw [bits_word (by omega)]; omega)
  simp only [copyCommand, copyWord, List.cons_append, List.getD_cons_zero, List.getD_cons_succ, if_true, h.note,
    h.kind, h.origin, h.target, hnRead, hcRead]

theorem leave_readsAs (n : SourceNo) :
    ReadsAs hop (Note.words own ⟨target, .leave n⟩) (.leave true own target ⟨n.val, by omega⟩) := by
  have hn := n.isLt
  refine readsAs_sealed (rest := [word (n.val * 2 ^ 27)]) (by simp) (by decide)
    fun w check h => ⟨by simp [lengthGood, h.note, h.kind, h.length], ?_⟩
  have hnRead : Fin.ofNat 32 (bits (word (n.val * 2 ^ 27)) 27 5) = ⟨n.val, by omega⟩ :=
    finOfNat_eq (by rw [bits_word (by omega)]; dsimp only; omega)
  simp only [copyCommand, copyWord, List.cons_append, List.getD_cons_zero, List.getD_cons_succ, if_true, h.note,
    h.kind, h.origin, h.target, hnRead]

theorem talk_readsAs (n : TalkNo) (src : SourceAddr) (c : Cls) (f : Bool) (kind : TargetKind) (v : Fin 32) :
    ReadsAs hop (Note.words own ⟨target, .talk n src c f kind v⟩) (.talk true own target n src c f kind v) := by
  have hn := n.isLt
  have hc := c.isLt
  have hv := v.isLt
  obtain ⟨station, index⟩ := src
  have hstation := station.isLt
  have hindex := index.isLt
  have hflag : (if f then 2 ^ 13 else 0) = f.toNat * 2 ^ 13 := by cases f <;> rfl
  have hf := f.toNat_lt
  have hk : targetKindCode kind < 2 := by cases kind <;> decide
  generalize hfirst : n.val * 2 ^ 27 + station.val * 2 ^ 21 + index.val * 2 ^ 16 + c.val * 2 ^ 14 +
    (if f then 2 ^ 13 else 0) = first
  generalize hsecond : targetKindCode kind * 2 ^ 31 + v.val * 2 ^ 26 = second
  rw [hflag] at hfirst
  have hread : ReadsAs hop (sealed (headerWord true own ([word first, word second].length + 2) 3 target ::
      [word first, word second])) (.talk true own target n ⟨station, index⟩ c f kind v) := by
    refine readsAs_sealed (by simp) (by decide) fun w check h => ⟨by simp [lengthGood, h.note, h.kind, h.length], ?_⟩
    have hnRead : Fin.ofNat 32 (bits (word first) 27 5) = n := finOfNat_eq (by rw [bits_word (by omega)]; omega)
    have hstationRead : Fin.ofNat 64 (bits (word first) 21 6) = station := finOfNat_eq (by rw [bits_word (by omega)]; omega)
    have hindexRead : Fin.ofNat 32 (bits (word first) 16 5) = index := finOfNat_eq (by rw [bits_word (by omega)]; omega)
    have hcRead : Fin.ofNat 4 (bits (word first) 14 2) = c := finOfNat_eq (by rw [bits_word (by omega)]; omega)
    have hfRead : (bits (word first) 13 1 == 1) = f := by
      have hbit : bits (word first) 13 1 = f.toNat := by rw [bits_word (by omega)]; omega
      rw [hbit]
      cases f <;> rfl
    have hvRead : Fin.ofNat 32 (bits (word second) 26 5) = v := finOfNat_eq (by rw [bits_word (by omega)]; omega)
    have hkindRead : (if (word second).msb then TargetKind.group else TargetKind.mix) = kind := by
      rw [BitVec.msb_eq_decide, word_toNat_of_lt (by omega)]
      cases kind with
      | mix => exact if_neg (by rw [decide_eq_true_eq, ← hsecond, targetKindCode]; omega)
      | group => exact if_pos (by rw [decide_eq_true_eq, ← hsecond, targetKindCode]; omega)
    simp only [copyCommand, copyWord, List.cons_append, List.getD_cons_zero, List.getD_cons_succ, if_true, h.note,
    h.kind, h.origin, h.target, hnRead, hstationRead, hindexRead, hcRead, hfRead,
      hvRead, hkindRead]
  subst hsecond
  rw [← hflag] at hfirst
  subst hfirst
  exact hread

theorem talkEnd_readsAs (n : TalkNo) :
    ReadsAs hop (Note.words own ⟨target, .talkEnd n⟩) (.talkEnd true own target n) := by
  have hn := n.isLt
  refine readsAs_sealed (rest := [word (n.val * 2 ^ 27)]) (by simp) (by decide)
    fun w check h => ⟨by simp [lengthGood, h.note, h.kind, h.length], ?_⟩
  have hnRead : Fin.ofNat 32 (bits (word (n.val * 2 ^ 27)) 27 5) = n :=
    finOfNat_eq (by rw [bits_word (by omega)]; omega)
  simp only [copyCommand, copyWord, List.cons_append, List.getD_cons_zero, List.getD_cons_succ, if_true, h.note,
    h.kind, h.origin, h.target, hnRead]

theorem talkState_readsAs (n : TalkNo) (m : Fin 32) {a : TalkAnswer} {r : Reason} {x : Fin 8} {y : Fin 16} (ha : a.code = x.val)
    (hr : r.code = y.val) :
    ReadsAs hop (Note.words own ⟨target, .talkState n m a r⟩) (.talkState true own target n m x y) := by
  have hn := n.isLt
  have hm := m.isLt
  have hx := x.isLt
  have hy := y.isLt
  generalize hfirst : n.val * 2 ^ 27 + m.val * 2 ^ 22 + a.code * 2 ^ 19 + r.code * 2 ^ 15 = first
  have hread : ReadsAs hop (sealed (headerWord true own ([word first].length + 2) 5 target :: [word first]))
      (.talkState true own target n m x y) := by
    refine readsAs_sealed (by simp) (by decide) fun w check h => ⟨by simp [lengthGood, h.note, h.kind, h.length], ?_⟩
    have hnRead : Fin.ofNat 32 (bits (word first) 27 5) = n := finOfNat_eq (by rw [bits_word (by omega)]; omega)
    have hmRead : Fin.ofNat 32 (bits (word first) 22 5) = m := finOfNat_eq (by rw [bits_word (by omega)]; omega)
    have hxRead : Fin.ofNat 8 (bits (word first) 19 3) = x := finOfNat_eq (by rw [bits_word (by omega)]; omega)
    have hyRead : Fin.ofNat 16 (bits (word first) 15 4) = y := finOfNat_eq (by rw [bits_word (by omega)]; omega)
    simp only [copyCommand, copyWord, List.cons_append, List.getD_cons_zero, List.getD_cons_succ, if_true, h.note,
    h.kind, h.origin, h.target, hnRead, hmRead, hxRead, hyRead]
  subst hfirst
  exact hread

theorem burst_readsAs (b : Burst) :
    ReadsAs hop (b.words own) (.burst true own ⟨b.source.val, by omega⟩ b.cls b.seq b.samples) := by
  obtain ⟨n, c, q, samples, age⟩ := b
  have hn := n.isLt
  have hc := c.isLt
  have hq := q.isLt
  have hlength : (samples.toList.map fun x : Sample => x.signExtend 32).length = 48 := by
    rw [List.length_map, Vector.length_toList]
  have hread : ReadsAs hop (sealed (headerWord false own
      ((word (n.val * 2 ^ 27 + c.val * 2 ^ 25 + q.toNat) :: samples.toList.map fun x : Sample => x.signExtend 32).length + 2) 0 0 ::
      word (n.val * 2 ^ 27 + c.val * 2 ^ 25 + q.toNat) :: samples.toList.map fun x : Sample => x.signExtend 32))
      (.burst true own ⟨n.val, by omega⟩ c q samples) := by
    refine readsAs_sealed (by rw [List.length_cons, hlength]; decide) (by decide)
      fun w check h => ⟨by simp [lengthGood, h.note, h.length], ?_⟩
    have hnRead : Fin.ofNat 32 (bits (word (n.val * 2 ^ 27 + c.val * 2 ^ 25 + q.toNat)) 27 5) = ⟨n.val, by omega⟩ :=
      finOfNat_eq (by rw [bits_word (by omega)]; dsimp only; omega)
    have hcRead : Fin.ofNat 4 (bits (word (n.val * 2 ^ 27 + c.val * 2 ^ 25 + q.toNat)) 25 2) = c :=
      finOfNat_eq (by rw [bits_word (by omega)]; omega)
    have hqRead : BitVec.ofNat 16 (bits (word (n.val * 2 ^ 27 + c.val * 2 ^ 25 + q.toNat)) 0 16) = q :=
      bitVecOfNat_eq (by rw [bits_word (by omega)]; omega)
    have hsamples : (Vector.ofFn fun k : Fin 48 => (((samples.toList.map fun x : Sample => x.signExtend 32) ++ [check]).getD
        k.val 0).setWidth 24) = samples := Vector.ext fun k hk => by
      have hlt : k < (samples.toList.map fun x : Sample => x.signExtend 32).length := by rwa [hlength]
      rw [Vector.getElem_ofFn, List.getD_append _ _ _ _ hlt, List.getD_eq_getElem _ _ hlt, List.getElem_map,
        setWidth_signExtend, Vector.getElem_toList]
    simp only [copyCommand, copyWord, h.note, h.origin, Bool.false_eq_true, if_false, List.cons_append, List.getD_cons_zero,
      List.getD_cons_succ, hnRead, hcRead, hqRead]
    exact congrArg (fun v => some (Instr.burst true own ⟨n.val, by omega⟩ c q v)) hsamples
  rw [List.length_cons, hlength] at hread
  exact hread

end Sys2Proof.Machine

namespace Sys2Proof.Proofs

open Sys2Proof.Machine

/-- Settles O52. -/
theorem insertedMessagesReadBack : Obligations.InsertedMessagesReadBack := by
  refine fun own target hop => ⟨presence_readsAs, join_readsAs, leave_readsAs, talk_readsAs, talkEnd_readsAs,
    fun n m a r => ?_, burst_readsAs⟩
  have ha : ∃ x : Fin 8, TalkAnswer.ofCode x = some a ∧ a.code = x.val := by cases a <;> decide
  have hr : ∃ y : Fin 16, Reason.ofCode y = some r ∧ r.code = y.val := by cases r <;> decide
  obtain ⟨x, hx, hax⟩ := ha
  obtain ⟨y, hy, hry⟩ := hr
  exact ⟨x, y, hx, hy, talkState_readsAs n m hax hry⟩

end Sys2Proof.Proofs

/-!
SUPPORT. The report of absence (R61, R80, R110, R113), the timers of the roster and the duplicate condition (R103, R104, R112).
-/

namespace Sys2Proof.Machine

/-! ### A pass over the entries of a table -/

/-- One entry of a table changes, from what it held before, and is told of. -/
def setAndTell {α β : Type} {n : Nat} (g : Fin n → α → α) (h : Fin n → α → β → β) (p : Vector α n × β) (k : Fin n) :
    Vector α n × β :=
  (p.1.set k (g k p.1[k]), h k p.1[k] p.2)

/-- A pass that changes the entries of a table one by one and tells of each in turn. -/
theorem foldl_setAndTell {α β : Type} {n : Nat} (g : Fin n → α → α) (h : Fin n → α → β → β) : ∀ {l : List (Fin n)}, l.Nodup →
    ∀ (v : Vector α n) (q : β), l.foldl (setAndTell g h) (v, q) =
      (Vector.ofFn fun k : Fin n => if k ∈ l then g k v[k] else v[k], l.foldl (fun q (k : Fin n) => h k v[k] q) q) := by
  intro l
  induction l with
  | nil =>
    intro _ v q
    refine Prod.ext (Vector.ext fun k hk => ?_) rfl
    simp
  | cons j l ih =>
    intro hnodup v q
    obtain ⟨hj, hl⟩ := List.nodup_cons.1 hnodup
    rw [List.foldl_cons, setAndTell, ih hl]
    refine Prod.ext (congrArg Vector.ofFn (funext fun k => ?_)) (List.foldl_ext _ _ _ fun q k hk => ?_)
    · dsimp only
      rw [vector_set_getElem]
      by_cases heq : j = k
      · subst heq
        rw [if_neg hj, if_pos rfl, if_pos List.mem_cons_self]
      · rw [if_neg heq]
        exact if_congr ⟨List.mem_cons_of_mem _, fun hmem => (List.mem_cons.1 hmem).resolve_left (Ne.symm heq)⟩ rfl rfl
    · dsimp only
      rw [vector_set_getElem_ne _ _ fun heq : j = k => hj (heq ▸ hk)]

theorem foldl_setAndTell_all {α β : Type} {n : Nat} (g : Fin n → α → α) (h : Fin n → α → β → β) (v : Vector α n) (q : β) :
    (List.finRange n).foldl (setAndTell g h) (v, q) =
      (Vector.ofFn fun k : Fin n => g k v[k], (List.finRange n).foldl (fun q (k : Fin n) => h k v[k] q) q) := by
  rw [foldl_setAndTell g h (List.nodup_finRange n)]
  refine Prod.ext (Vector.ext fun k hk => ?_) rfl
  simp

theorem foldl_setAndTell_map {α β : Type} {n : Nat} (g : α → α) (h : Fin n → α → β → β) (v : Vector α n) (q : β) :
    (List.finRange n).foldl (setAndTell (fun _ => g) h) (v, q) =
      (v.map g, (List.finRange n).foldl (fun q (k : Fin n) => h k v[k] q) q) := by
  rw [foldl_setAndTell_all]
  refine Prod.ext (Vector.ext fun k hk => ?_) rfl
  simp

theorem exists_of_mem_map_getElem {α : Type} {n : Nat} {v : Vector (Option α) n} {f : α → α} {k : Fin n} {e : α}
    (h : e ∈ (v.map fun r => r.map f)[k]) : ∃ y ∈ v[k], f y = e := by
  have hget : (v.map fun r => r.map f)[k] = v[k].map f := by simp
  rw [hget] at h
  exact Option.mem_map.1 h

variable {s u : State} {o : Station}

/-! ### The replies of an absent station (R80) -/

/-- An outgoing talk without the replies of one station, summed again. -/
def OutTalk.without (o : Station) (x : OutTalk) : OutTalk :=
  { x with replies := x.replies.filter fun r => r.station != o }.summed

/-- The TALLY event of a talk whose summary the absence changes. -/
def tallyAbsence (o : Station) (n : TalkNo) (r : Option OutTalk) (q : EventQueue) : EventQueue :=
  match r with
  | some x => if (x.without o).summary = x.summary then q else q.push (.tally n x.origin (x.without o).summary false)
  | none => q

theorem State.dropReplies_eq (s : State) (n : TalkNo) : State.dropReplies o s n = { s with
    outTalks := s.outTalks.set n (s.outTalks[n].map (OutTalk.without o)), events := tallyAbsence o n s.outTalks[n] s.events } := by
  unfold State.dropReplies
  cases h : s.outTalks[n] with
  | none =>
    have hset : s.outTalks.set n none = s.outTalks := by
      rw [← h]
      exact Vector.set_getElem_self _
    exact congrArg (fun v => ({ s with outTalks := v } : State)) hset.symm
  | some x =>
    unfold State.putSummed tallyAbsence
    dsimp only [Option.map_some]
    by_cases heq : (x.without o).summary = x.summary
    · rw [if_pos heq]
      exact if_pos heq
    · rw [if_neg heq]
      exact if_neg heq

theorem State.talkerAbsence_eq (s : State) (o : Station) : s.talkerAbsence o = { s with
    outTalks := s.outTalks.map fun r => r.map (OutTalk.without o)
    events := (List.finRange 32).foldl (fun q n => tallyAbsence o n s.outTalks[n] q) s.events } := by
  have hpass := foldl_setAndTell_map (fun r : Option OutTalk => r.map (OutTalk.without o)) (tallyAbsence o) s.outTalks s.events
  refine (List.foldl_hom (fun p : Vector (Option OutTalk) 32 × EventQueue => ({ s with outTalks := p.1, events := p.2 } : State))
    (g₁ := setAndTell (fun _ r => r.map (OutTalk.without o)) (tallyAbsence o)) (init := (s.outTalks, s.events))
    fun p n => State.dropReplies_eq _ n).trans ?_
  exact congrArg (fun p : Vector (Option OutTalk) 32 × EventQueue => ({ s with outTalks := p.1, events := p.2 } : State)) hpass

/-! ### The listen entries of an absent station (R110, R113) -/

/-- A listen entry once its station is absent, marked and emptied. -/
def ListenEntry.afterAbsence (o : Station) (e : ListenEntry) : ListenEntry :=
  if e.source.station = o then { e.emptied with absent := true } else e

theorem State.absentListen_eq (s : State) (k : Fin 32) : State.absentListen o s k =
    { s with listens := s.listens.set k (s.listens[k].map (ListenEntry.afterAbsence o)) } := by
  have hself : s = { s with listens := s.listens.set k s.listens[k] } :=
    congrArg (fun v => ({ s with listens := v } : State)) (Vector.set_getElem_self _).symm
  unfold State.absentListen
  cases h : s.listens[k] with
  | none =>
    rw [h] at hself
    exact hself
  | some e =>
    dsimp only [Option.map_some]
    unfold ListenEntry.afterAbsence
    split
    · rfl
    · rw [h] at hself
      exact hself

theorem State.listenAbsence_eq (s : State) (o : Station) : s.listenAbsence o =
    { s with listens := s.listens.map fun r => r.map (ListenEntry.afterAbsence o) } := by
  have hpass := foldl_setAndTell_map (fun r : Option ListenEntry => r.map (ListenEntry.afterAbsence o)) (fun _ _ (_ : Unit) => ())
    s.listens ()
  refine (List.foldl_hom (fun p : Vector (Option ListenEntry) 32 × Unit => ({ s with listens := p.1 } : State))
    (g₁ := setAndTell (fun _ r => r.map (ListenEntry.afterAbsence o)) fun _ _ (_ : Unit) => ()) (init := (s.listens, ()))
    fun p k => State.absentListen_eq _ k).trans ?_
  exact congrArg (fun p : Vector (Option ListenEntry) 32 × Unit => ({ s with listens := p.1 } : State)) hpass

/-! ### The records of an absent talker (R61) -/

theorem State.removeTalkers_records : ∀ {l : List Mix}, l.Nodup → ∀ (s : State) (m : Mix) (r : InTalk),
    (r ∈ (l.foldl (State.removeTalker o) s).talks[m].granted ↔ r ∈ s.talks[m].granted ∧ (m ∈ l → r.talker ≠ o)) ∧
    (r ∈ (l.foldl (State.removeTalker o) s).talks[m].waiting ↔ r ∈ s.talks[m].waiting ∧ (m ∈ l → r.talker ≠ o)) := by
  intro l
  induction l with
  | nil => exact fun _ s m r => by simp
  | cons k l ih =>
    intro hnodup s m r
    obtain ⟨hk, hl⟩ := List.nodup_cons.1 hnodup
    obtain ⟨hgranted, hwaiting⟩ := ih hl (State.removeTalker o s k) m r
    have hremoved := State.removeTalker_removed o s k
    rw [List.foldl_cons, hgranted, hwaiting]
    by_cases heq : m = k
    · subst heq
      rw [hremoved.left]
      dsimp only
      rw [mem_diff_filter, mem_diff_filter]
      simp [hk]
    · rw [(hremoved.elsewhere m heq).1]
      simp [heq]

theorem State.fills_granted (l : List Mix) : ∀ (s : State) (m : Mix),
    s.talks[m].granted ⊆ (l.foldl State.fill s).talks[m].granted := by
  induction l with
  | nil => exact fun s m => List.Subset.refl _
  | cons k l ih =>
    intro s m
    refine List.Subset.trans ?_ (ih (s.fill k) m)
    by_cases heq : m = k
    · subst heq
      exact (s.fill_fillStep m).granted.subset
    · rw [((s.fill_fillStep k).elsewhere m heq).1]
      exact List.Subset.refl _

theorem State.arbiterAbsence_gone (s : State) (o : Station) (m : Mix) :
    ∀ r ∈ (s.arbiterAbsence o).talks[m].granted ++ (s.arbiterAbsence o).talks[m].waiting, r.talker ≠ o := by
  intro r hr heq
  have hfills : ((List.finRange 24).foldl (State.removeTalker o) s).RemovalStep (s.arbiterAbsence o) :=
    foldl_removalStep _ (fun s m => (s.fill_fillStep m).toRemovalStep) _ _
  obtain ⟨r', hr', hkey⟩ := MixTalks.mem_keys.1 ((hfills.keys m).subset (MixTalks.mem_keys.2 ⟨r, hr, rfl⟩))
  obtain ⟨hgranted, hwaiting⟩ := State.removeTalkers_records (o := o) (List.nodup_finRange 24) s m r'
  have htalker : r'.talker ≠ o := by
    rcases List.mem_append.1 hr' with hmem | hmem
    · exact (hgranted.1 hmem).2 (List.mem_finRange m)
    · exact (hwaiting.1 hmem).2 (List.mem_finRange m)
  exact htalker ((congrArg Prod.fst hkey).trans heq)

theorem State.arbiterAbsence_stays (s : State) (o : Station) (m : Mix) :
    ∀ r ∈ s.talks[m].granted, r.talker ≠ o → r ∈ (s.arbiterAbsence o).talks[m].granted := fun r hr hne =>
  State.fills_granted _ _ m (((State.removeTalkers_records (List.nodup_finRange 24) s m r).1).2 ⟨hr, fun _ => hne⟩)

/-! ### The report of absence -/

/-- What a report of absence leaves of the station and of the others. -/
structure State.Forgets (o : Station) (u t : State) : Prop where
  sends : ∀ n : SourceNo, t.sends[n] = u.sends[n].filter fun x => x.station != o
  talks : ∀ m : Mix, ∀ r ∈ t.talks[m].granted ++ t.talks[m].waiting, r.talker ≠ o
  replies : ∀ n : TalkNo, ∀ x ∈ t.outTalks[n], ∀ r ∈ x.replies, r.station ≠ o
  listens : ∀ k : Fin 32, ∀ e ∈ t.listens[k], e.source.station = o → e.absent = true ∧ e.state = .empty ∧ e.buffer = []
  events : ∃ es : List Event, t.events = es.foldl EventQueue.push u.events
  frame : t = { u with
    routes := t.routes, talks := t.talks, outTalks := t.outTalks, sends := t.sends, listens := t.listens
    sched := { u.sched with notes := t.sched.notes }, counters := t.counters, events := t.events }

theorem State.sendAbsence_spec (u : State) (o : Station) : ∃ v : Vector (List Subscriber) 24,
    u.sendAbsence o = { u with sends := v } ∧ ∀ n : SourceNo, v[n] = u.sends[n].filter fun x => x.station != o :=
  ⟨_, rfl, fun _ => Vector.getElem_ofFn ..⟩

theorem State.reportAbsence_forgets (u : State) (o : Station) : State.Forgets o u (u.reportAbsence o) := by
  obtain ⟨v, hsent, hv⟩ := u.sendAbsence_spec o
  rw [State.reportAbsence, hsent]
  generalize hw : ({ u with sends := v } : State) = w
  have hevents : w.events = u.events := by rw [← hw]
  have hsends : w.sends = v := by rw [← hw]
  have harb := w.arbiterAbsence_removalStep o
  have hgone := w.arbiterAbsence_gone o
  have htalker := (w.arbiterAbsence o).talkerAbsence_answerStep o
  have houts := (w.arbiterAbsence o).talkerAbsence_eq o
  have hlisten := ((w.arbiterAbsence o).talkerAbsence o).listenAbsence_listenStep o
  have hlistens := ((w.arbiterAbsence o).talkerAbsence o).listenAbsence_eq o
  have hstep := (harb.toTalkStep.trans htalker.toTalkStep).trans hlisten.toTalkStep
  refine ⟨fun n => ?_, fun m => ?_, fun n x hx r hr => ?_, fun k e he hstation => ?_, ?_, ?_⟩
  · rw [hstep.sends, hsends]
    exact hv n
  · rw [hlisten.talks, htalker.talks]
    exact hgone m
  · rw [hlisten.outTalks, houts] at hx
    obtain ⟨y, -, rfl⟩ := exists_of_mem_map_getElem hx
    exact bne_iff_ne.1 (List.mem_filter.1 hr).2
  · rw [hlistens] at he
    obtain ⟨y, -, rfl⟩ := exists_of_mem_map_getElem he
    have hy : y.source.station = o := by
      unfold ListenEntry.afterAbsence at hstation
      split at hstation <;> exact hstation
    rw [ListenEntry.afterAbsence, if_pos hy]
    exact ⟨rfl, rfl, rfl⟩
  · rw [hlisten.events, ← hevents]
    exact exists_events_trans harb.events htalker.events
  · refine hstep.eq.trans ?_
    rw [hstep.sends, ← hw]

theorem State.sendAbsence_eq (u : State) (o : Station) :
    u.sendAbsence o = { u with sends := u.sends.map fun l => l.filter fun x => x.station != o } :=
  congrArg (fun v => ({ u with sends := v } : State)) (Vector.ext fun n hn => by simp [dropSubscriber])

/-- The report of absence after its removals and fillings. -/
theorem State.reportAbsence_eq (u : State) (o : Station) : u.reportAbsence o =
    { (u.sendAbsence o).arbiterAbsence o with
      outTalks := ((u.sendAbsence o).arbiterAbsence o).outTalks.map fun r => r.map (OutTalk.without o)
      listens := ((u.sendAbsence o).arbiterAbsence o).listens.map fun r => r.map (ListenEntry.afterAbsence o)
      events := (List.finRange 32).foldl (fun q n => tallyAbsence o n ((u.sendAbsence o).arbiterAbsence o).outTalks[n] q)
        ((u.sendAbsence o).arbiterAbsence o).events } := by
  rw [State.reportAbsence, State.listenAbsence_eq, State.talkerAbsence_eq]

theorem State.reportAbsence_stays (u : State) (o : Station) (m : Mix) {r : InTalk} (hr : r ∈ u.talks[m].granted)
    (hne : r.talker ≠ o) : r ∈ (u.reportAbsence o).talks[m].granted := by
  have htalks : (u.sendAbsence o).talks = u.talks := by rw [State.sendAbsence_eq]
  rw [State.reportAbsence_eq]
  dsimp only
  exact (u.sendAbsence o).arbiterAbsence_stays o m r (by rwa [htalks]) hne

/-! ### The presence and absence timers (R103, R104, R108) -/

theorem exec_presenceTimer_of_none (h : s.presenceDue = none) : exec .presenceTimerExpiry s = .next s := by
  rw [exec, execPresenceTimerExpiry, h]

theorem exec_presenceTimer_of_some {due next : Nat} (h : s.presenceDue = some due) (hnext : due + Config.ms 100 = next) :
    exec .presenceTimerExpiry s = .next (State.announce { s.reach due with presenceDue := some next }) := by
  rw [exec, execPresenceTimerExpiry, h, ← hnext]

theorem State.announce_of_not (h : s.mode ≠ .active ∨ s.ring.status = .down) : s.announce = s :=
  if_neg fun ⟨hactive, hup⟩ => h.elim (fun hne => hne hactive) fun hdown => nomatch hup.symm.trans hdown

theorem State.announce_of {q : Seq} (hactive : s.mode = .active) (hup : s.ring.status = .up)
    (hq : s.cfg.startStamp = some q) : s.announce =
      s.hand ⟨63, .presence q (BitVec.ofNat 8 s.listenCount) (BitVec.ofNat 8 s.sendingCount)⟩ := by
  rw [State.announce, if_pos ⟨hactive, hup⟩, hq]
  rfl

theorem exec_absenceTimer_of_absent (ho : o.val < 63) (h : s.roster[o.val].present = false) :
    exec (.absenceTimerExpiry o) s = .next s := by
  refine congrArg Host.Outcome.next ((dif_pos ho).trans ?_)
  dsimp only
  rw [h]

/-- The station once a peer's record says ABSENT, and the event that tells it. -/
def State.missing (s : State) (o : Station) (ho : o.val < 63) (due : Nat) : State :=
  ({ s.reach due with roster := s.roster.set o.val { s.roster[o.val] with present := false } } : State).emit
    (.station o .absent s.roster[o.val].stamp s.audio.blockCounter)

theorem exec_absenceTimer_of_present (ho : o.val < 63) {heardAt due : Nat} (h : s.roster[o.val].present = true)
    (hheard : s.roster[o.val].lastHeard = some heardAt) (hdue : heardAt + Config.ms 350 = due) :
    exec (.absenceTimerExpiry o) s = .next ((s.missing o ho due).reportAbsence o) := by
  refine congrArg Host.Outcome.next ((dif_pos ho).trans ?_)
  dsimp only
  rw [h, hheard]
  dsimp only
  rw [hdue]
  refine congrArg (State.reportAbsence · o) ?_
  rw [State.setRecord, dif_pos ho, ← hheard]
  rfl

/-- A station that falls silent for 350 ms, at its due time. -/
theorem exec_absenceTimer_spec (ho : o.val < 63) {heardAt due : Nat} (h : s.roster[o.val].present = true)
    (hheard : s.roster[o.val].lastHeard = some heardAt) (hdue : heardAt + Config.ms 350 = due) :
    ∃ t, exec (.absenceTimerExpiry o) s = .next t ∧
      t = (({ s.reach due with roster := s.roster.set o.val { s.roster[o.val] with present := false } } : State).emit
        (.station o .absent s.roster[o.val].stamp s.audio.blockCounter)).reportAbsence o ∧
      (∀ n : SourceNo, t.sends[n] = s.sends[n].filter fun x => x.station != o) ∧
      (∀ m : Mix, ∀ r ∈ t.talks[m].granted ++ t.talks[m].waiting, r.talker ≠ o) ∧
      (∀ n : TalkNo, ∀ x ∈ t.outTalks[n], ∀ r ∈ x.replies, r.station ≠ o) ∧
      (∀ k : Fin 32, ∀ e ∈ t.listens[k], e.source.station = o → e.absent = true ∧ e.state = .empty ∧ e.buffer = []) ∧
      (∃ es : List Event, t.events = es.foldl EventQueue.push
        (s.events.push (.station o .absent s.roster[o.val].stamp s.audio.blockCounter))) ∧
      t = { s.reach due with
        roster := s.roster.set o.val { s.roster[o.val] with present := false }
        routes := t.routes, talks := t.talks, outTalks := t.outTalks, sends := t.sends, listens := t.listens
        sched := { s.sched with notes := t.sched.notes }, counters := t.counters, events := t.events } := by
  have hexec := exec_absenceTimer_of_present ho h hheard hdue
  obtain ⟨hsends, htalks, hreplies, hlistens, hevents, hframe⟩ := (s.missing o ho due).reportAbsence_forgets o
  refine ⟨_, hexec, by rw [State.missing], hsends, htalks, hreplies, hlistens, hevents, ?_⟩
  generalize (s.missing o ho due).reportAbsence o = t at hframe ⊢
  exact hframe

/-! ### The duplicate condition (R112) -/

theorem State.duplicate_of_active (h : s.mode = .active) (q : Seq) : s.duplicate q = { s with
    mode := .silent, sched := { s.sched with notes := [], queues := Vector.replicate 4 [] }
    events := s.events.push (.ring .duplicate s.audio.blockCounter (some q)) } := by
  rw [State.duplicate, h]
  rfl

theorem State.duplicate_of_silent (h : s.mode = .silent) (q : Seq) : s.duplicate q = s := by
  rw [State.duplicate, h]

end Sys2Proof.Machine

namespace Sys2Proof.Proofs

open Sys2Proof.Machine

/-- Settles O56. -/
theorem presenceTimersAndDuplicate : Obligations.PresenceTimersAndDuplicate := by
  refine ⟨fun u o => ?_, fun s => ⟨exec_presenceTimer_of_none,
    fun due hdue => ?_, fun o ho => ⟨exec_absenceTimer_of_absent ho, fun heardAt hpresent hheard => ?_⟩,
    fun q hmode hring hhand => ?_⟩⟩
  · intro sent removed filled summed
    refine ⟨?_, fun m r hr hne => u.reportAbsence_stays o m hr hne⟩
    have hfilled : (u.sendAbsence o).arbiterAbsence o = filled := by
      rw [State.sendAbsence_eq]
      rfl
    rw [State.reportAbsence_eq, hfilled]
    generalize filled = w
    have hevents : ((List.finRange 32).foldl (fun q n => tallyAbsence o n w.outTalks[n] q) w.events) =
        (List.finRange 32).foldl (fun q n => match w.outTalks[n] with
          | some x => if (summed x).summary = x.summary then q else q.push (.tally n x.origin (summed x).summary false)
          | none => q) w.events := List.foldl_ext _ _ _ fun q n _ => by
      unfold tallyAbsence
      cases w.outTalks[n] with
      | none => rfl
      | some x => rfl
    rw [hevents]
    rfl
  · have hexec := exec_presenceTimer_of_some hdue (congrArg (due + ·) ms_100)
    intro ran
    refine ⟨fun hnot => hexec.trans (congrArg _ (State.announce_of_not ?_)), fun hactive hup q hq =>
      hexec.trans (congrArg _ (State.announce_of ?_ ?_ ?_))⟩
    · exact hnot.imp id fun hdown => (State.reach_status s due).trans hdown
    · exact hactive
    · exact (State.reach_status s due).trans hup
    · exact hq
  · exact exec_absenceTimer_spec ho hpresent hheard (congrArg (heardAt + ·) ms_350)
  · have hexec := (s.presenceCheckCopy_copied (good := true) q).of_nil (State.takesCopies_of hmode hring) rfl hhand
    refine ⟨fun h => hexec.trans (congrArg _ ?_), fun hne hactive => hexec.trans (congrArg _ ?_)⟩
    · by_cases hq : s.cfg.startStamp = some q
      · exact if_pos hq
      · exact (if_neg hq).trans (State.duplicate_of_silent (h.resolve_left hq) q)
    · exact (if_neg hne).trans (State.duplicate_of_active hactive q)

end Sys2Proof.Proofs

/-!
SUPPORT. A PRESENCE of a peer and the JOINs that its return brings (R106, R107, R109, R111, R120, R123).
-/

namespace Sys2Proof.Machine

variable {s t u : State} {o : Station}

/-! ### Notes handed while the listen entries change -/

theorem State.hand_withListens (s : State) (n : Note) (v : Vector (Option ListenEntry) 32) :
    ({ s with listens := v } : State).hand n = { s.hand n with listens := v } := by
  cases hmode : s.mode with
  | active =>
    simp only [State.hand, hmode]
    split <;> simp only [State.count, hmode]
  | silent | unconfigured => simp only [State.hand, hmode]

theorem State.hands_listens (ns : List Note) : ∀ s : State, (ns.foldl State.hand s).listens = s.listens := by
  induction ns with
  | nil => exact fun s => rfl
  | cons n ns ih => exact fun s => (ih (s.hand n)).trans (s.hand_listens n)

theorem State.hands_listenStep (ns : List Note) : ∀ s : State, s.ListenStep (ns.foldl State.hand s) := by
  induction ns with
  | nil => exact fun s => .refl s
  | cons n ns ih => exact fun s => (s.hand_listenStep n).trans (ih (s.hand n))

theorem State.hands_withListens (ns : List Note) (v : Vector (Option ListenEntry) 32) : ∀ s : State,
    ({ ns.foldl State.hand s with listens := v } : State) = ns.foldl State.hand { s with listens := v } := by
  induction ns with
  | nil => exact fun s => rfl
  | cons n ns ih => exact fun s => (ih (s.hand n)).trans (congrArg (List.foldl State.hand · ns) (s.hand_withListens n v).symm)

/-! ### The return of a station (R111, R120, R123) -/

/-- An entry whose station came back at `now`. -/
def ListenEntry.afterReturn (o : Station) (now : Nat) (e : ListenEntry) : ListenEntry :=
  if e.source.station = o ∧ e.absent = true then { e with absent := false, lastJoin := some now } else e

/-- The JOIN of an entry whose station came back. -/
def returnJoin (o : Station) (r : Option ListenEntry) : Option Note :=
  (r.filter fun e => e.source.station == o && e.absent).map fun e => ⟨o, .join e.source.index e.cls⟩

theorem State.returnListen_eq (s : State) (ns : List Note) (v : Vector (Option ListenEntry) 32) (k : Fin 32) :
    State.returnListen o (ns.foldl State.hand { s with listens := v }) k =
      (ns ++ (returnJoin o v[k]).toList).foldl State.hand
        { s with listens := v.set k (v[k].map (ListenEntry.afterReturn o s.clock.now)) } := by
  have hlistens := State.hands_listens ns { s with listens := v }
  have hclock := congrArg Clock.now (State.hands_listenStep ns { s with listens := v }).clock
  have hset := State.hands_withListens ns (s := { s with listens := v })
  generalize ns.foldl State.hand { s with listens := v } = w at *
  dsimp only at hlistens hclock hset
  rw [List.foldl_append, ← hset]
  have hself : w = { w with listens := v.set k v[k] } :=
    (congrArg (fun x => ({ w with listens := x } : State)) ((Vector.set_getElem_self _).trans hlistens.symm)).symm
  unfold State.returnListen
  rw [hlistens]
  cases h : v[k] with
  | none =>
    rw [h] at hself
    exact hself
  | some e =>
    by_cases hback : e.source.station = o ∧ e.absent = true
    · have hjoin : returnJoin o (some e) = some ⟨o, .join e.source.index e.cls⟩ := by
        simp [returnJoin, hback.1, hback.2]
      dsimp only
      rw [if_pos hback, State.handJoin_setListen, hjoin, Option.map_some, ListenEntry.afterReturn, if_pos hback, hclock, hback.1,
        State.setListen, hlistens]
      rfl
    · have hjoin : returnJoin o (some e) = none := by
        simpa [returnJoin] using hback
      dsimp only
      rw [if_neg hback, hjoin, Option.map_some, ListenEntry.afterReturn, if_neg hback, ← h]
      exact hself

theorem foldl_append_toList {α β : Type} (f : α → Option β) (l : List α) : ∀ q : List β,
    l.foldl (fun q a => q ++ (f a).toList) q = q ++ l.filterMap f := by
  induction l with
  | nil => exact fun q => (List.append_nil q).symm
  | cons a l ih =>
    intro q
    rw [List.foldl_cons, ih, List.filterMap_cons]
    cases f a <;> simp

theorem State.listenReturn_eq (s : State) (o : Station) : s.listenReturn o =
    ((List.finRange 32).filterMap fun k => returnJoin o s.listens[k]).foldl State.hand
      { s with listens := s.listens.map fun r => r.map (ListenEntry.afterReturn o s.clock.now) } := by
  have hpass := foldl_setAndTell_map (fun r : Option ListenEntry => r.map (ListenEntry.afterReturn o s.clock.now))
    (fun _ r (q : List Note) => q ++ (returnJoin o r).toList) s.listens []
  rw [foldl_append_toList, List.nil_append] at hpass
  refine (List.foldl_hom (fun p : Vector (Option ListenEntry) 32 × List Note =>
      p.2.foldl State.hand ({ s with listens := p.1 } : State))
    (g₁ := setAndTell (fun _ r => r.map (ListenEntry.afterReturn o s.clock.now)) fun _ r q => q ++ (returnJoin o r).toList)
    (init := (s.listens, [])) fun p k => State.returnListen_eq s p.2 p.1 k).trans ?_
  exact congrArg (fun p : Vector (Option ListenEntry) 32 × List Note => p.2.foldl State.hand ({ s with listens := p.1 } : State)) hpass

theorem vector_map_option {α β : Type} {n : Nat} (v : Vector (Option α) n) (f : α → β) (k : Fin n) :
    (v.map fun r => r.map f)[k] = v[k].map f := by simp

theorem State.listenReturn_listens (s : State) (o : Station) (k : Fin 32) :
    (s.listenReturn o).listens[k] = s.listens[k].map (ListenEntry.afterReturn o s.clock.now) := by
  rw [State.listenReturn_eq, State.hands_listens]
  exact vector_map_option ..

/-- A return, from the entries it leaves. -/
theorem State.listenReturn_hands (s : State) (o : Station) : s.listenReturn o =
    ((List.finRange 32).filterMap fun k => returnJoin o s.listens[k]).foldl State.hand
      { s with listens := (s.listenReturn o).listens } := by
  have hlistens : (s.listenReturn o).listens = s.listens.map fun r => r.map (ListenEntry.afterReturn o s.clock.now) := by
    rw [State.listenReturn_eq, State.hands_listens]
  rw [hlistens]
  exact s.listenReturn_eq o

/-! ### A station's record (R106, R107, R109) -/

section
variable {hop : Fin 64} {q : Seq} {l d : BitVec 8} (ho : o.val < 63)

/-- The station once a PRESENCE was heard. -/
def State.heardPresence (s : State) (o : Station) (ho : o.val < 63) (hop : Fin 64) (q : Seq) (l d : BitVec 8) : State :=
  { s with roster := s.roster.set o.val ⟨true, some q, some s.clock.now, hop, l, d⟩ }

theorem State.takePresence_of_same (hpresent : s.roster[o.val].present = true) (hstamp : s.roster[o.val].stamp = some q) :
    s.takePresence o hop q l d = s.heardPresence o ho hop q l d := by
  refine (dif_pos ho).trans ((if_pos hpresent).trans ((if_pos hstamp).trans (dif_pos ho)))

theorem State.takePresence_of_absent (hpresent : s.roster[o.val].present = false) : s.takePresence o hop q l d =
    ((s.heardPresence o ho hop q l d).emit (.station o .present (some q) s.audio.blockCounter)).listenReturn o := by
  refine (dif_pos ho).trans ((if_neg (by rw [hpresent]; exact Bool.false_ne_true)).trans ?_)
  rw [State.setRecord, dif_pos ho]
  rfl

theorem State.takePresence_of_restarted (hpresent : s.roster[o.val].present = true) (hstamp : s.roster[o.val].stamp ≠ some q) :
    s.takePresence o hop q l d = (((s.heardPresence o ho hop q l d).emit
      (.station o .restarted (some q) s.audio.blockCounter)).reportAbsence o).listenReturn o := by
  refine (dif_pos ho).trans ((if_pos hpresent).trans ((if_neg hstamp).trans ?_))
  rw [State.setRecord, dif_pos ho]
  rfl

end

/-! ### A restart (R109) -/

/-- What a report of absence and the return after it leave. -/
theorem State.Forgets.returned (h : State.Forgets o u s) :
    (∀ n : SourceNo, (s.listenReturn o).sends[n] = u.sends[n].filter fun x => x.station != o) ∧
    (∀ m : Mix, ∀ r ∈ (s.listenReturn o).talks[m].granted ++ (s.listenReturn o).talks[m].waiting, r.talker ≠ o) ∧
    (∀ n : TalkNo, ∀ x ∈ (s.listenReturn o).outTalks[n], ∀ r ∈ x.replies, r.station ≠ o) ∧
    (∀ k : Fin 32, ∀ e ∈ (s.listenReturn o).listens[k], e.source.station = o →
      e.absent = false ∧ e.state = .empty ∧ e.buffer = []) ∧
    (∃ es : List Event, (s.listenReturn o).events = es.foldl EventQueue.push u.events) := by
  have hstep := s.listenReturn_listenStep o
  rw [hstep.sends, hstep.talks, hstep.outTalks, hstep.events]
  refine ⟨h.sends, h.talks, h.replies, fun k e he hstation => ?_, h.events⟩
  rw [State.listenReturn_listens] at he
  obtain ⟨y, hy, rfl⟩ := Option.mem_map.1 he
  have hy' : y.source.station = o := by
    unfold ListenEntry.afterReturn at hstation
    split at hstation <;> exact hstation
  obtain ⟨habsent, hempty, hbuffer⟩ := h.listens k y hy hy'
  rw [ListenEntry.afterReturn, if_pos ⟨hy', habsent⟩]
  exact ⟨rfl, hempty, hbuffer⟩

theorem State.Forgets.frame_trans (h : State.Forgets o u s) (g : s.ListenStep t) : t = { u with
    routes := t.routes, talks := t.talks, outTalks := t.outTalks, sends := t.sends, listens := t.listens
    sched := { u.sched with notes := t.sched.notes }, counters := t.counters, events := t.events } := by
  refine g.eq.trans ?_
  rw [g.routes, g.talks, g.outTalks, g.sends, g.events]
  have hframe := h.frame
  generalize t.listens = v
  generalize t.sched.notes = ns
  generalize t.counters = cs
  exact congrArg (fun w : State => ({ w with listens := v, sched := { w.sched with notes := ns }, counters := cs } : State)) hframe

/-- After a report of absence every entry of the station is marked, so that its return takes them all. -/
theorem State.Forgets.afterReturn (h : State.Forgets o u s) (now : Nat) (k : Fin 32) :
    s.listens[k].map (ListenEntry.afterReturn o now) =
      s.listens[k].map fun e => if e.source.station = o then { e with absent := false, lastJoin := some now } else e := by
  cases hk : s.listens[k] with
  | none => rfl
  | some e =>
    refine congrArg some (if_congr ⟨And.left, fun hstation => ⟨hstation, (h.listens k e hk hstation).1⟩⟩ rfl rfl)

theorem State.Forgets.returnJoin_eq (h : State.Forgets o u s) (now : Nat) (k : Fin 32) : returnJoin o s.listens[k] =
    ((s.listens[k].map (ListenEntry.afterReturn o now)).filter fun e => e.source.station == o).map
      fun e => ⟨o, .join e.source.index e.cls⟩ := by
  cases hk : s.listens[k] with
  | none => rfl
  | some e =>
    rw [Option.map_some, ListenEntry.afterReturn]
    by_cases hstation : e.source.station = o
    · have habsent := (h.listens k e hk hstation).1
      simp [returnJoin, Option.filter, hstation, habsent]
    · simp [returnJoin, Option.filter, hstation]

end Sys2Proof.Machine

namespace Sys2Proof.Proofs

open Sys2Proof.Machine

/-- Settles O55. -/
theorem presenceUpdatesRoster : Obligations.PresenceUpdatesRoster := by
  intro s o target own hop q l d ho hmode hring hown hne hhand htarget hhop old heard taken
  have hexec : taken = .next (s.takePresence o hop q l d) := by
    refine (s.presence_copied (good := true) o target hop q l d).of_nil (State.takesCopies_of hmode hring) ?_ hhand
    rw [State.selects_eq_true (by rw [hown]; exact fun h => hne (Option.some.inj h).symm)
      (htarget.imp id fun h => by rw [hown, h])]
    exact decide_eq_true hhop
  refine ⟨fun hpresent hstamp => hexec.trans (congrArg _ (State.takePresence_of_same ho hpresent hstamp)),
    fun hpresent => ?_, fun hpresent hstamp => ?_⟩
  · have htaken := hexec.trans (congrArg _ (State.takePresence_of_absent ho hpresent))
    exact ⟨_, htaken, State.listenReturn_listens _ o, State.listenReturn_hands _ o⟩
  · intro gone
    have htaken : taken = .next (gone.listenReturn o) :=
      hexec.trans (congrArg _ (State.takePresence_of_restarted ho hpresent hstamp))
    have hforgets : State.Forgets o (heard.emit (.station o .restarted (some q) s.audio.blockCounter)) gone :=
      State.reportAbsence_forgets _ o
    have hclock : gone.clock.now = s.clock.now := by
      rw [hforgets.frame]
      rfl
    have hlistens := gone.listenReturn_listens o
    rw [hclock] at hlistens
    obtain ⟨hsends, htalks, hreplies, hback, hevents⟩ := hforgets.returned
    refine ⟨_, htaken, fun k => (hlistens k).trans (hforgets.afterReturn _ k), ?_, hsends, htalks, hreplies,
      hback, hevents, hforgets.frame_trans (gone.listenReturn_listenStep o)⟩
    refine (gone.listenReturn_hands o).trans (congrArg (List.foldl State.hand _) ?_)
    refine List.filterMap_congr fun k _ => ?_
    rw [hforgets.returnJoin_eq s.clock.now, ← hlistens]

end Sys2Proof.Proofs

/-!
SUPPORT. Ring-out by the clock: the symbols that leave while ring-in has lost alignment (R86, R97, R98).
-/

namespace Sys2Proof.Machine

variable {s : State} {r t : Ring}

/-! ### The symbols that ring-out owes -/

/-- The symbols still to leave at ring-out: those of the insertion in flight, or else those of the buffer. -/
def Ring.queued (r : Ring) : List Symbol :=
  match r.insertion with
  | some i => i.left
  | none => r.buffered

theorem Ring.queued_of_some {i : Insertion} (h : r.insertion = some i) : r.queued = i.left := by rw [Ring.queued, h]

theorem Ring.queued_of_none (h : r.insertion = none) : r.queued = r.buffered := by rw [Ring.queued, h]

/-- The owed idle symbol and the words of a buffer, each closing word with its idle symbol. -/
def bufferSymbols (gap : Bool) (l : List Held) : List Symbol :=
  (if gap then [.idle] else []) ++ l.flatMap fun h => if h.ends then [.data h.word, .idle] else [.data h.word]

theorem bufferSymbols_cons (gap : Bool) (h : Held) (l : List Held) : bufferSymbols gap (h :: l) =
    (if gap then [.idle] else []) ++ .data h.word :: bufferSymbols h.ends l := by
  unfold bufferSymbols
  rw [List.flatMap_cons]
  cases h.ends <;> rfl

theorem length_bufferSymbols (gap : Bool) (l : List Held) :
    (bufferSymbols gap l).length ≤ (if gap then 1 else 0) + 2 * l.length := by
  induction l generalizing gap with
  | nil => cases gap <;> decide
  | cons h l ih =>
    have hl := ih h.ends
    rw [bufferSymbols_cons, List.length_append, List.length_cons, List.length_cons]
    cases gap <;> cases hends : h.ends <;> simp [hends] at hl ⊢ <;> omega

/-- Where twice as many symbols as words and one more leave, the last of them is idle. -/
theorem bufferSymbols_getD (gap : Bool) (l : List Held) : (bufferSymbols gap l).getD (2 * l.length) .idle = .idle := by
  induction l generalizing gap with
  | nil => cases gap <;> rfl
  | cons h l ih =>
    rw [bufferSymbols_cons, List.length_cons, Nat.mul_succ]
    cases gap with
    | true => exact ih h.ends
    | false =>
      have hlen := length_bufferSymbols h.ends l
      have hone : (if h.ends = true then 1 else 0) ≤ 1 := by split <;> decide
      exact List.getD_eq_default (l := bufferSymbols h.ends l) (n := 2 * l.length + 1) _ (by omega)

theorem Ring.length_queued_le (r : Ring) : r.queued.length ≤ r.owed := by
  unfold Ring.owed
  cases h : r.insertion with
  | some i =>
    rw [Ring.queued_of_some h]
    dsimp only
    omega
  | none =>
    have hlen := length_bufferSymbols r.gapOwed r.buffer
    have hone : (if r.gapOwed = true then 1 else 0) ≤ 1 := by split <;> decide
    rw [Ring.queued_of_none h]
    exact le_trans hlen (by dsimp only; omega)

theorem Ring.queued_getD_owed (r : Ring) : r.queued.getD (r.owed - 1) .idle = .idle := by
  unfold Ring.owed
  cases h : r.insertion with
  | some i =>
    rw [Ring.queued_of_some h]
    exact List.getD_eq_default _ _ (by dsimp only; omega)
  | none =>
    have hlast := bufferSymbols_getD r.gapOwed r.buffer
    rw [Ring.queued_of_none h]
    dsimp only
    rw [Nat.add_sub_cancel, Nat.zero_add]
    exact hlast

/-! ### One word time after another -/

theorem Ring.not_emitting (h : r.queued = []) : r.emitting = false := by
  unfold Ring.emitting
  cases hi : r.insertion with
  | some i =>
    rw [Ring.queued_of_some hi] at h
    dsimp only
    rw [h]
    rfl
  | none =>
    rw [Ring.queued_of_none hi] at h
    obtain ⟨hgap, hflat⟩ := List.append_eq_nil_iff.1 h
    have hg : r.gapOwed = false := by
      cases hg : r.gapOwed with
      | false => rfl
      | true => simp [hg] at hgap
    have hb : r.buffer = [] := by
      cases hb : r.buffer with
      | nil => rfl
      | cons b bs =>
        rw [hb, List.flatMap_cons] at hflat
        cases hends : b.ends <;> simp [hends] at hflat
    simp [hg, hb]

theorem Ring.emitting_of_cons {x : Symbol} {xs : List Symbol} (h : r.queued = x :: xs) : r.emitting = true ∧
    (r.emit .idle).out = x ∧ (r.emit .idle).queued = xs ∧ (r.emit .idle).swept = r.swept ∧
    (∀ i, r.insertion = some i → r.emit .idle = { r with out := x, insertion := some { i with left := xs } }) := by
  rcases r.emit_cases .idle with ⟨m, y, ys, hi, he⟩ | ⟨m, hi, he⟩ | ⟨hi, hg, he⟩ | ⟨b, bs, hi, hg, hb, he⟩ | ⟨hi, hg, hb, he⟩ <;> rw [he]
  · rw [Ring.queued_of_some hi] at h
    obtain ⟨rfl, rfl⟩ := List.cons.inj h
    refine ⟨by simp [Ring.emitting, hi], rfl, rfl, rfl, fun i h => ?_⟩
    rw [hi] at h
    cases h
    rfl
  · rw [Ring.queued_of_some hi] at h
    cases h
  · rw [Ring.queued_of_none hi, Ring.buffered, hg] at h
    obtain ⟨rfl, rfl⟩ := List.cons.inj h
    refine ⟨by simp [Ring.emitting, hi, hg], rfl, ?_, rfl, fun i h => ?_⟩
    · rw [Ring.queued, hi]
      rfl
    · rw [hi] at h
      cases h
  · have hcons := bufferSymbols_cons false b bs
    rw [Ring.queued_of_none hi, Ring.buffered, hg, hb] at h
    obtain ⟨rfl, rfl⟩ := List.cons.inj (hcons.symm.trans h)
    refine ⟨by simp [Ring.emitting, hi, hb], rfl, ?_, rfl, fun i h => ?_⟩
    · rw [Ring.queued, hi]
      rfl
    · rw [hi] at h
      cases h
  · rw [Ring.queued_of_none hi, Ring.buffered, hg, hb] at h
    cases h

/-- What `n` word times leave of ring-out. -/
structure Ring.Swept (n : Nat) (r t : Ring) : Prop where
  swept : t.swept = r.swept ++ r.queued.take n
  queued : t.queued = r.queued.drop n
  out : 0 < n → t.out = r.queued.getD (n - 1) .idle
  inserted : ∀ i, r.insertion = some i → t.insertion = some { i with left := i.left.drop n } ∧ t.buffer = r.buffer ∧
    t.gapOwed = r.gapOwed

theorem Ring.sweep_swept : ∀ (n : Nat) (r : Ring), Ring.Swept n r (Ring.sweep n r)
  | 0, r => ⟨(List.append_nil _).symm, rfl, fun h => absurd h (Nat.lt_irrefl 0), fun i hi => ⟨hi, rfl, rfl⟩⟩
  | n + 1, r => by
    cases hq : r.queued with
    | nil =>
      rw [Ring.sweep_empty n r (Ring.not_emitting hq)]
      refine ⟨by rw [hq]; exact (List.append_nil _).symm, by rw [hq]; exact hq, fun _ => by rw [hq]; rfl, fun i hi => ?_⟩
      rw [Ring.queued_of_some hi] at hq
      obtain ⟨m, left⟩ := i
      subst hq
      exact ⟨hi, rfl, rfl⟩
    | cons x xs =>
      obtain ⟨hemitting, hout, hrest, hswept, hins⟩ := Ring.emitting_of_cons hq
      rw [Ring.sweep, if_pos hemitting, hout, ← hswept]
      obtain ⟨gswept, gqueued, gout, gins⟩ := Ring.sweep_swept n { r.emit .idle with swept := (r.emit .idle).swept ++ [x] }
      have hq' : ({ r.emit .idle with swept := (r.emit .idle).swept ++ [x] } : Ring).queued = xs := hrest
      rw [hq'] at gswept gqueued gout
      refine ⟨?_, by rw [gqueued, hq, List.drop_succ_cons], fun _ => ?_, fun i hi => ?_⟩
      · rw [gswept, hq, List.take_succ_cons, List.append_assoc, ← hswept]
        rfl
      · rw [hq, Nat.add_sub_cancel]
        cases n with
        | zero => exact hout
        | succ n => exact gout (Nat.succ_pos n)
      · have hemit := hins i hi
        rw [Ring.queued_of_some hi] at hq
        obtain ⟨hinsertion, hbuffer, hgap⟩ := gins { i with left := xs } (by rw [hemit])
        rw [hinsertion, hbuffer, hgap, hemit, hq, List.drop_succ_cons]
        exact ⟨rfl, rfl, rfl⟩

theorem Ring.coast_swept (r : Ring) {n : Nat} (hn : 0 < n) : Ring.Swept n { r with swept := [] } (r.coast n) := by
  have hcoast : r.coast n = Ring.sweep (min n r.owed) { r with swept := [] } := if_neg (Nat.ne_of_gt hn)
  have hlen : ({ r with swept := [] } : Ring).queued.length ≤ r.owed := r.length_queued_le
  have hlast : ({ r with swept := [] } : Ring).queued.getD (r.owed - 1) .idle = .idle := r.queued_getD_owed
  have howed : 0 < r.owed := Nat.succ_pos _
  obtain ⟨hswept, hqueued, hout, hins⟩ := Ring.sweep_swept (min n r.owed) { r with swept := [] }
  rw [hcoast]
  by_cases hle : n ≤ r.owed
  · rw [Nat.min_eq_left hle] at *
    exact ⟨hswept, hqueued, hout, hins⟩
  · have hlt := Nat.lt_of_not_le hle
    rw [Nat.min_eq_right hlt.le] at *
    refine ⟨?_, ?_, fun _ => ?_, fun i hi => ?_⟩
    · rw [hswept, List.take_of_length_le hlen, List.take_of_length_le (hlen.trans hlt.le)]
    · rw [hqueued, List.drop_of_length_le hlen, List.drop_of_length_le (hlen.trans hlt.le)]
    · rw [hout howed, hlast, List.getD_eq_default _ _ (hlen.trans (by omega))]
    · obtain ⟨hinsertion, hbuffer, hgap⟩ := hins i hi
      have hi' : i.left.length ≤ r.owed := Ring.queued_of_some (r := { r with swept := [] }) hi ▸ hlen
      rw [hinsertion, List.drop_of_length_le hi', List.drop_of_length_le (hi'.trans hlt.le)]
      exact ⟨rfl, hbuffer, hgap⟩

theorem Ring.OutStep.eq (h : r.OutStep t) : t = { r with
    insertion := t.insertion, buffer := t.buffer, gapOwed := t.gapOwed, out := t.out, swept := t.swept } := by
  obtain ⟨h1, h2, h3, h4, h5, -, -⟩ := h
  obtain ⟨_, _, _, _, _, _, _, _, _, _⟩ := t
  simp only at h1 h2 h3 h4 h5
  subst h1 h2 h3 h4 h5
  rfl

theorem Ring.OutStep.insertion_none (h : r.OutStep t) (hr : r.insertion = none) : t.insertion = none := by
  have hsome := h.insertion_isSome
  rw [hr] at hsome
  exact Option.isNone_iff_eq_none.1 (Option.isSome_eq_false_iff.1 hsome)

theorem State.reach_ring (s : State) (t : Nat) : (s.reach t).ring = if s.ring.aligned || s.bypassClosed then s.ring
    else s.ring.coast (wordTimes (t - s.ring.alignedAt) - wordTimes (s.clock.now - s.ring.alignedAt)) := rfl

end Sys2Proof.Machine

namespace Sys2Proof.Proofs

open Sys2Proof.Machine

/-- Settles O2. -/
theorem emptyQueueLetsOneCountPass : Obligations.EmptyQueueLetsOneCountPass := by
  refine ⟨fun s hs => by rw [step, hs], fun s t => ?_⟩
  intro d n waiting left
  refine ⟨(s.reach t).ring, rfl, fun h => ?_, fun haligned hmode hn => ?_⟩
  · rcases h with haligned | hmode | hn
    · exact State.reach_ring_aligned s t haligned
    · exact State.reach_ring_closed s t (by rw [State.bypassClosed, hmode]; rfl)
    · have hcoast : s.ring.coast n = s.ring := by rw [hn, Ring.coast_zero]
      exact (s.reach_ring t).trans ((congrArg (ite _ s.ring) hcoast).trans (ite_self _))
  · have hopen : (s.ring.aligned || s.bypassClosed) = false := by
      rw [haligned, State.bypassClosed, beq_false_of_ne hmode]
      rfl
    have hring : (s.reach t).ring = s.ring.coast n := by
      rw [State.reach_ring, hopen]
      rfl
    have hleft : left = s.ring.queued := rfl
    have hstep := s.ring.coast_outStep n
    obtain ⟨hswept, hqueued, hout, hins⟩ := s.ring.coast_swept hn
    rw [hring]
    refine ⟨hswept.trans (List.nil_append _), hout hn, hins, fun hnone => ⟨hstep.insertion_none hnone, ?_, hstep.buffer⟩, hstep.eq⟩
    rw [Ring.queued_of_none (hstep.insertion_none hnone)] at hqueued
    exact hqueued

end Sys2Proof.Proofs

/-!
SUPPORT. CONFIGURE in an UNCONFIGURED station (R189).
-/

namespace Sys2Proof.Machine

variable {s : State}

/-- A port as CONFIGURE leaves it. -/
def Port.configured (p : Port) (c : PortConfig) : Port := { p with
  enabled := c.enabled, access := c.access, target := some c.target, state := if c.enabled then .idle else p.state }

/-- The FIELD event of a port that CONFIGURE enables. -/
def tellConfigured (c : Configuration) (b : Seq) (k : PortNo) (p : Port) (q : EventQueue) : EventQueue :=
  if c.ports[k].enabled then q.push (.field k p.state .idle .none p.idResult p.failures p.interval b) else q

theorem State.configurePort_eq (c : Configuration) (s : State) (k : PortNo) : State.configurePort c s k = { s with
    ports := s.ports.set k (s.ports[k].configured c.ports[k])
    events := tellConfigured c s.audio.blockCounter k s.ports[k] s.events } := by
  unfold State.configurePort tellConfigured Port.configured
  dsimp only
  by_cases h : c.ports[k].enabled = true
  · rw [if_pos h, if_pos h, if_pos h]
    rfl
  · rw [if_neg h, if_neg h, if_neg h]
    rfl

theorem State.configurePorts_eq (c : Configuration) (s : State) : (List.finRange 8).foldl (State.configurePort c) s = { s with
    ports := Vector.ofFn fun k => s.ports[k].configured c.ports[k]
    events := (List.finRange 8).foldl (fun q k => tellConfigured c s.audio.blockCounter k s.ports[k] q) s.events } := by
  have hpass := foldl_setAndTell_all (fun (k : PortNo) (p : Port) => p.configured c.ports[k])
    (tellConfigured c s.audio.blockCounter) s.ports s.events
  refine (List.foldl_hom (fun p : Vector Port 8 × EventQueue => ({ s with ports := p.1, events := p.2 } : State))
    (g₁ := setAndTell (fun k p => p.configured c.ports[k]) (tellConfigured c s.audio.blockCounter))
    (init := (s.ports, s.events)) fun p k => State.configurePort_eq c _ k).trans ?_
  exact congrArg (fun p : Vector Port 8 × EventQueue => ({ s with ports := p.1, events := p.2 } : State)) hpass

/-- A note handed over in an ACTIVE station, as one equation (R135). -/
theorem State.hand_of_active (h : s.mode = .active) (n : Note) : s.hand n = { s with
    sched := { s.sched with notes := s.sched.notes ++ (if s.sched.notes.length < 16 then [n] else []) }
    counters := if 16 ≤ s.sched.notes.length then { s.counters with noteDrop := satInc s.counters.noteDrop } else s.counters } := by
  rcases s.hand_cases n with ⟨-, hfree, he⟩ | ⟨-, hfull, he⟩ | ⟨hno, -⟩
  · rw [he, if_pos hfree, if_neg (Nat.not_le.2 hfree)]
  · rw [he, if_neg (Nat.not_lt.2 hfull), if_pos hfull, List.append_nil]
    rfl
  · exact absurd h hno

/-- The first PRESENCE, handed where the ring interface is UP. -/
theorem State.announce_of_active {q : Seq} (h : s.mode = .active) (hq : s.cfg.startStamp = some q) : s.announce = { s with
    sched := { s.sched with notes := s.sched.notes ++ (if s.ring.status = .up ∧ s.sched.notes.length < 16 then
      [⟨63, .presence q (BitVec.ofNat 8 s.listenCount) (BitVec.ofNat 8 s.sendingCount)⟩] else []) }
    counters := if s.ring.status = .up ∧ 16 ≤ s.sched.notes.length then
      { s.counters with noteDrop := satInc s.counters.noteDrop } else s.counters } := by
  cases hring : s.ring.status with
  | up =>
    rw [State.announce_of h hring hq, State.hand_of_active h]
    simp only [true_and]
  | down =>
    rw [State.announce_of_not (.inr hring), if_neg (fun hno => nomatch hno.1), if_neg (fun hno => nomatch hno.1), List.append_nil]

end Sys2Proof.Machine

namespace Sys2Proof.Proofs

open Sys2Proof.Machine

/-- Settles O12. -/
theorem configureTakesEffect : Obligations.ConfigureTakesEffect := by
  intro s args c hmode hlength hargs
  have hexec : exec (.configure args) s =
      .next ((s.configure c).done codeConfigure [word c.number.val, word s.clock.startCounter.toNat]) := by
    refine congrArg Host.Outcome.next ((if_pos hlength).trans ((if_neg ?_).trans ?_))
    · rw [State.configured_of_mode_eq hmode]
      exact Bool.false_ne_true
    · rw [hargs]
  have hports := State.configurePorts_eq c (s.takeConfig c).openBypass
  have hannounce := State.announce_of_active (s := (List.finRange 8).foldl (State.configurePort c) (s.takeConfig c).openBypass)
    (q := s.clock.startCounter) (by rw [hports]; rfl) (by rw [hports]; rfl)
  rw [State.configure, hannounce, hports, State.takeConfig, ms_100] at hexec
  refine ⟨_, hexec, rfl, rfl, rfl, rfl, fun k => ?_, ?_, rfl, rfl, rfl, rfl⟩
  · exact Vector.getElem_ofFn ..
  · rw [List.foldl_filter]
    rfl

end Sys2Proof.Proofs

/-!
SUPPORT. The end of a pass: the delivery of its blocks and the protect loop (R31, R40 to R45, R182, R184).
-/

namespace Sys2Proof.Machine

variable {s : State}

/-! ### The delivery (R31, R182, R184) -/

theorem foldl_ite_eq_repeat {α β : Type} (f : β → β) (p : α → Bool) (l : List α) : ∀ x : β,
    l.foldl (fun x a => if p a then f x else x) x = Nat.repeat f (l.countP p) x := by
  induction l with
  | nil => exact fun x => rfl
  | cons a l ih =>
    intro x
    rw [List.foldl_cons, ih, List.countP_cons]
    cases p a with
    | true => exact (repeat_add f 1 x (l.countP p)).symm
    | false => rfl

/-- A return port with its block in the outbound buffer. -/
def Port.delivered (p : Port) (b : Block) : Port :=
  if p.state.admitted then { p with outbound := p.outbound.drop (p.outbound.length - 48) ++ b.toList } else p

/-- An admitted port whose outbound buffer is over its limit. -/
def Port.overruns (p : Port) : Bool := p.state.admitted && decide (48 < p.outbound.length)

theorem State.deliverReturn_eq (s : State) (k : PortNo) (b : Block) : s.deliverReturn k b = { s with
    ports := s.ports.set k (s.ports[k].delivered b)
    counters := if s.ports[k].overruns then s.counters.incOverrun else s.counters } := by
  unfold State.deliverReturn Port.delivered Port.overruns
  dsimp only
  by_cases h : s.ports[k].state.admitted = true
  · rw [if_pos h, if_pos h, h, Bool.true_and]
    by_cases hlen : 48 < s.ports[k].outbound.length
    · rw [if_pos hlen, if_pos (decide_eq_true hlen)]
      rfl
    · rw [if_neg hlen, if_neg (by rwa [decide_eq_true_eq])]
      rfl
  · rw [if_neg h, if_neg h, if_neg (fun hno => h (Bool.and_eq_true_iff.1 hno).1)]
    exact congrArg (fun v => ({ s with ports := v } : State)) (Vector.set_getElem_self _).symm

theorem State.deliverReturns_eq (s : State) (p : Pass) : s.deliverReturns p = { s with
    ports := Vector.ofFn fun k => s.ports[k].delivered (mixBlock p.mixes[returnMix k])
    counters := Nat.repeat Counters.incOverrun ((List.finRange 8).countP fun k => s.ports[k].overruns) s.counters } := by
  have hpass := foldl_setAndTell_all (fun (k : PortNo) (q : Port) => q.delivered (mixBlock p.mixes[returnMix k]))
    (fun _ q cs => if q.overruns then cs.incOverrun else cs) s.ports s.counters
  have hcount := foldl_ite_eq_repeat Counters.incOverrun (fun k : PortNo => s.ports[k].overruns) (List.finRange 8) s.counters
  rw [← hcount]
  refine (List.foldl_hom (fun x : Vector Port 8 × Counters => ({ s with ports := x.1, counters := x.2 } : State))
    (g₁ := setAndTell (fun k q => q.delivered (mixBlock p.mixes[returnMix k]))
      fun _ q cs => if q.overruns then cs.incOverrun else cs)
    (init := (s.ports, s.counters)) fun x k => State.deliverReturn_eq _ k _).trans ?_
  exact congrArg (fun x : Vector Port 8 × Counters => ({ s with ports := x.1, counters := x.2 } : State)) hpass

theorem Counters.repeat_incOverrun (n : Nat) (cs : Counters) :
    Nat.repeat Counters.incOverrun n cs = { cs with overrun := Nat.repeat satInc n cs.overrun } := by
  induction n with
  | zero => rfl
  | succ n ih => rw [Nat.repeat, ih]; rfl

/-! ### The protect loop (R40 to R45) -/

section
variable (st : MixState) (p high low wrong : Nat)

theorem MixState.protect_fst : (st.protect p high low wrong).1 =
    (let c := high + low + wrong
    let st : MixState := { st with high := high, low := low, wrong := wrong, clipped := decide (0 < c) }
    if 0 < p ∧ p ≤ c then { st with trim := if st.trim < 7 then st.trim + 1 else st.trim, cleanRun := 0 }
    else if 0 < c then { st with cleanRun := 0 }
    else if st.cleanRun + 1 < 250 then { st with cleanRun := st.cleanRun + 1 }
    else { st with trim := st.trim - 1, cleanRun := 0 }) := by
  unfold MixState.protect
  dsimp only
  by_cases hover : 0 < p ∧ p ≤ high + low + wrong
  · rw [if_pos hover, if_pos hover]
    split <;> rfl
  · rw [if_neg hover, if_neg hover]
    by_cases hclean : high + low + wrong = 0
    · rw [if_pos hclean, if_neg (show ¬ 0 < high + low + wrong by omega)]
      by_cases hshort : st.cleanRun + 1 < 250
      · rw [if_pos hshort, if_pos hshort]
      · rw [if_neg hshort, if_neg hshort]
        by_cases htrim : 0 < st.trim
        · rw [if_pos htrim]
        · rw [if_neg htrim, show st.trim - 1 = st.trim by omega]
    · rw [if_neg hclean, if_pos (show 0 < high + low + wrong by omega)]

/-- The direction tells how the trim moved. -/
theorem MixState.protect_snd : (st.protect p high low wrong).2 = if (st.protect p high low wrong).1.trim = st.trim then none
    else some (if st.trim < (st.protect p high low wrong).1.trim then .up else .down) := by
  unfold MixState.protect
  dsimp only
  split
  · split
    · rw [if_neg (Nat.succ_ne_self _), if_pos (Nat.lt_succ_self _)]
    · rw [if_pos rfl]
  · split
    · split
      · rw [if_pos rfl]
      · split
        case isTrue hpos =>
          dsimp only
          rw [if_neg (show ¬ st.trim - 1 = st.trim by omega), if_neg (show ¬ st.trim < st.trim - 1 by omega)]
        · rw [if_pos rfl]
    · rw [if_pos rfl]

end

/-- A mix after the protect loop took its counts of a pass. -/
def MixState.protected (st : MixState) (c : MixConfig) (p : PassMix) : MixState :=
  (st.protect c.protect (clipCount p .high) (clipCount p .low) (clipCount p .wrong)).1

/-- The PROTECT event of a mix whose trim moved. -/
def tellProtect (cs : Vector MixConfig 24) (p : Pass) (m : Mix) (st : MixState) (q : EventQueue) : EventQueue :=
  let after := st.protected cs[m] p.mixes[m]
  if after.trim = st.trim then q
  else q.push (.protect m (if st.trim < after.trim then .up else .down) after.trim p.mixes[m].clips p.number)

theorem State.protectMix_eq (p : Pass) (s : State) (m : Mix) : State.protectMix p s m = { s with
    mixes := s.mixes.set m (s.mixes[m].protected s.cfg.mixes[m] p.mixes[m])
    events := tellProtect s.cfg.mixes p m s.mixes[m] s.events } := by
  have hsnd := s.mixes[m].protect_snd s.cfg.mixes[m].protect (clipCount p.mixes[m] .high) (clipCount p.mixes[m] .low)
    (clipCount p.mixes[m] .wrong)
  unfold State.protectMix tellProtect MixState.protected
  dsimp only
  rw [hsnd]
  generalize (s.mixes[m].protect s.cfg.mixes[m].protect (clipCount p.mixes[m] .high) (clipCount p.mixes[m] .low)
    (clipCount p.mixes[m] .wrong)).1 = after
  by_cases h : after.trim = s.mixes[m].trim
  · rw [if_pos h, if_pos h]
  · rw [if_neg h, if_neg h]
    rfl

theorem State.protectMixes_eq (p : Pass) (s : State) : (List.finRange 24).foldl (State.protectMix p) s = { s with
    mixes := Vector.ofFn fun m => s.mixes[m].protected s.cfg.mixes[m] p.mixes[m]
    events := (List.finRange 24).foldl (fun q m => tellProtect s.cfg.mixes p m s.mixes[m] q) s.events } := by
  have hpass := foldl_setAndTell_all (fun (m : Mix) (st : MixState) => st.protected s.cfg.mixes[m] p.mixes[m])
    (tellProtect s.cfg.mixes p) s.mixes s.events
  refine (List.foldl_hom (fun x : Vector MixState 24 × EventQueue => ({ s with mixes := x.1, events := x.2 } : State))
    (g₁ := setAndTell (fun (m : Mix) (st : MixState) => st.protected s.cfg.mixes[m] p.mixes[m]) (tellProtect s.cfg.mixes p))
    (init := (s.mixes, s.events)) fun x m => State.protectMix_eq p _ m).trans ?_
  rw [hpass]

theorem State.endPass_of_none (h : s.audio.pass = none) : s.endPass = s := by rw [State.endPass, h]

theorem State.endPass_of_some {p : Pass} (h : s.audio.pass = some p) : s.endPass = { s with
    audio := { s.audio with pass := none, delivered := Vector.ofFn fun n : Fin 16 => some (mixBlock p.mixes[n.val]) }
    ports := Vector.ofFn fun k => s.ports[k].delivered (mixBlock p.mixes[returnMix k])
    counters := { s.counters with
      overrun := Nat.repeat satInc ((List.finRange 8).countP fun k => s.ports[k].overruns) s.counters.overrun }
    mixes := Vector.ofFn fun m => s.mixes[m].protected s.cfg.mixes[m] p.mixes[m]
    events := (List.finRange 24).foldl (fun q m => tellProtect s.cfg.mixes p m s.mixes[m] q) s.events } := by
  rw [State.endPass, h]
  dsimp only
  rw [State.protectMixes_eq, State.deliverReturns_eq, Counters.repeat_incOverrun]
  rfl

theorem PortState.admitted_iff (st : PortState) : st.admitted = true ↔ st = .settling ∨ st = .live ∨ st = .retraining := by
  cases st <;> decide

end Sys2Proof.Machine

namespace Sys2Proof.Proofs

open Sys2Proof.Machine

/-- Settles O38. -/
theorem mixPassEndDelivers : Obligations.MixPassEndDelivers := by
  intro s
  refine ⟨fun hnone => congrArg Host.Outcome.next (State.endPass_of_none hnone), fun p hp =>
    ⟨_, congrArg Host.Outcome.next (State.endPass_of_some hp), rfl, fun n => Vector.getElem_ofFn .., fun k => ?_,
      fun m => ?_, ?_, ?_, rfl⟩⟩
  · have hport : (Vector.ofFn fun k => s.ports[k].delivered (mixBlock p.mixes[returnMix k]))[k] =
        s.ports[k].delivered (mixBlock p.mixes[returnMix k]) := Vector.getElem_ofFn ..
    dsimp only
    split
    case isTrue h => exact hport.trans (if_pos ((PortState.admitted_iff _).2 h))
    case isFalse h => exact hport.trans (if_neg fun hadmitted => h ((PortState.admitted_iff _).1 hadmitted))
  · have hmix : (Vector.ofFn fun m => s.mixes[m].protected s.cfg.mixes[m] p.mixes[m])[m] =
        s.mixes[m].protected s.cfg.mixes[m] p.mixes[m] := Vector.getElem_ofFn ..
    exact hmix.trans (MixState.protect_fst ..)
  · refine List.foldl_ext _ _ _ fun q m _ => ?_
    have hmix : (Vector.ofFn fun m => s.mixes[m].protected s.cfg.mixes[m] p.mixes[m])[m] =
        s.mixes[m].protected s.cfg.mixes[m] p.mixes[m] := Vector.getElem_ofFn ..
    dsimp only
    rw [hmix]
    rfl
  · refine congrArg (Nat.repeat satInc · _) (List.countP_congr fun k _ => ?_)
    rw [Port.overruns, Bool.and_eq_true, Bool.and_eq_true, PortState.admitted_iff, decide_eq_true_eq, decide_eq_true_eq]

end Sys2Proof.Proofs

/-!
SUPPORT. The completion of a block, stage by stage: the pass, the ageing and capture of the queues, the field ports
(R18 to R25, R34, R130 to R134, R139, R168, R176, R177).
-/

namespace Sys2Proof.Machine

variable {s : State}

/-! ### The field ports at a completion (R168, R176, R177) -/

/-- A port after the completion of a block. -/
def Port.atCompletion (p : Port) : Port :=
  match p.state with
  | .settling => if p.goesLive then { p.settledBlock with state := .live } else p.settledBlock
  | .live => p.driftChecked
  | _ => p

/-- The FIELD event of a port that becomes LIVE at a completion. -/
def tellLive (b : Seq) (k : PortNo) (p : Port) (q : EventQueue) : EventQueue :=
  if p.goesLive then q.push (.field k .settling .live .none p.idResult p.failures p.interval b) else q

theorem Port.goesLive_iff (p : Port) : p.goesLive = true ↔ p.state = .settling ∧ 7 ≤ p.settled ∧ 96 ≤ p.elastic.length := by
  have hsettled : p.settledBlock.settled = 8 ↔ 7 ≤ p.settled := by
    show min 8 (p.settled + 1) = 8 ↔ _
    omega
  rw [Port.goesLive, Bool.and_eq_true, Bool.and_eq_true, beq_iff_eq, beq_iff_eq, decide_eq_true_eq, hsettled, and_assoc]
  rfl

theorem Port.not_goesLive {p : Port} (h : p.state ≠ .settling) : p.goesLive = false :=
  Bool.eq_false_iff.2 fun hlive => h ((Port.goesLive_iff p).1 hlive).1

theorem State.portCompletion_eq (s : State) (k : PortNo) : s.portCompletion k = { s with
    ports := s.ports.set k s.ports[k].atCompletion
    events := tellLive s.audio.blockCounter k s.ports[k] s.events } := by
  have hself : s = { s with ports := s.ports.set k s.ports[k] } :=
    congrArg (fun v => ({ s with ports := v } : State)) (Vector.set_getElem_self _).symm
  unfold State.portCompletion tellLive Port.atCompletion
  dsimp only
  cases hstate : s.ports[k].state with
  | settling =>
    dsimp only
    by_cases hlive : s.ports[k].goesLive = true
    · rw [if_pos hlive, if_pos hlive, if_pos hlive, State.movePort_of rfl, hstate]
      rfl
    · rw [if_neg hlive, if_neg hlive, if_neg hlive]
      rfl
  | live =>
    rw [Port.not_goesLive (by rw [hstate]; nofun), if_neg Bool.false_ne_true]
    rfl
  | disabled | idle | training | checking | holdoff | retraining =>
    rw [Port.not_goesLive (by rw [hstate]; nofun), if_neg Bool.false_ne_true]
    exact hself

theorem State.portCompletions_eq (s : State) : (List.finRange 8).foldl State.portCompletion s = { s with
    ports := Vector.ofFn fun k => s.ports[k].atCompletion
    events := (List.finRange 8).foldl (fun q k => tellLive s.audio.blockCounter k s.ports[k] q) s.events } := by
  have hpass := foldl_setAndTell_all (fun (_ : PortNo) (p : Port) => p.atCompletion) (tellLive s.audio.blockCounter) s.ports s.events
  refine (List.foldl_hom (fun x : Vector Port 8 × EventQueue => ({ s with ports := x.1, events := x.2 } : State))
    (g₁ := setAndTell (fun (_ : PortNo) (p : Port) => p.atCompletion) (tellLive s.audio.blockCounter))
    (init := (s.ports, s.events)) fun x k => State.portCompletion_eq _ k).trans ?_
  rw [hpass]

/-! ### The capture (R130 to R134) -/

/-- What the capture adds to the queue of a class for one source. -/
def State.captureOf (s : State) (seen : PortNo → Bool) (c : Cls) (n : SourceNo) : Option Burst :=
  if s.sendClass n = some c then (s.captureBlock seen n).map fun b => ⟨n, c, s.audio.blockCounter, b, 0⟩ else none

/-- A queue kept within its capacity by discarding its heads. -/
def keepNewest (l : List Burst) : List Burst := l.drop (l.length - 16)

theorem keepNewest_append {l : List Burst} (k : List Burst) : keepNewest (keepNewest l ++ k) = keepNewest (l ++ k) := by
  unfold keepNewest
  rw [← List.drop_append_of_le_length (Nat.sub_le ..), List.drop_drop, List.length_drop, List.length_append]
  congr 1
  omega

theorem length_keepNewest (l : List Burst) : (keepNewest l).length ≤ 16 := by
  rw [keepNewest, List.length_drop]
  omega

theorem keepNewest_of_le {l : List Burst} (h : l.length ≤ 16) : keepNewest l = l := by
  rw [keepNewest, Nat.sub_eq_zero_of_le h, List.drop_zero]

/-- A burst appended to the queue of its class (R133, R134). -/
theorem State.appendBurst_eq {b : Burst} (h : s.sched.queues[b.cls].length ≤ 16) : s.appendBurst b = { s with
    sched := { s.sched with queues := s.sched.queues.set b.cls (keepNewest (s.sched.queues[b.cls] ++ [b])) }
    counters := { s.counters with
      dropOld := Nat.repeat satInc ((s.sched.queues[b.cls] ++ [b]).length - 16) s.counters.dropOld } } := by
  have hlength : (s.sched.queues[b.cls] ++ [b]).length = s.sched.queues[b.cls].length + 1 := by
    rw [List.length_append, List.length_singleton]
  unfold State.appendBurst
  dsimp only
  rw [hlength]
  by_cases hfree : s.sched.queues[b.cls].length < Config.maxBursts
  · have hlt : s.sched.queues[b.cls].length < 16 := hfree
    rw [if_pos hfree, keepNewest_of_le (hlength.le.trans hlt), Nat.sub_eq_zero_of_le hlt]
    rfl
  · have hge : ¬ s.sched.queues[b.cls].length < 16 := hfree
    have hfull : s.sched.queues[b.cls].length = 16 := by omega
    have hkept : keepNewest (s.sched.queues[b.cls] ++ [b]) = s.sched.queues[b.cls].drop 1 ++ [b] := by
      rw [keepNewest, hlength, hfull]
      exact List.drop_append_of_le_length (by omega)
    rw [if_neg hfree, hkept, hfull]
    rfl

theorem sum_map_add_ite (f : Cls → Nat) (c : Cls) (j : Nat) :
    ((List.finRange 4).map fun d => f d + if d = c then j else 0).sum = ((List.finRange 4).map f).sum + j := by
  have hone : ∀ c : Cls, ((List.finRange 4).map fun d => if d = c then j else 0).sum = j := by
    intro c
    fin_cases c <;> simp [List.finRange_succ]
  rw [List.sum_map_add, hone]

/-- The state after a capture: the queues and the count of what left them. -/
def State.captured (s : State) (v : Vector (List Burst) 4) (d : Nat) : State :=
  { s with sched := { s.sched with queues := v }, counters := { s.counters with dropOld := d } }

theorem State.captureOne_of_inactive (h : s.mode ≠ .active) (seen : PortNo → Bool) (n : SourceNo) : State.captureOne seen s n = s := by
  unfold State.captureOne
  split
  case h_1 hmode _ _ => exact absurd hmode h
  case h_2 => rfl

theorem State.captureAll_of_inactive (h : s.mode ≠ .active) (seen : PortNo → Bool) : s.captureAll seen = s := by
  unfold State.captureAll
  induction List.finRange 24 with
  | nil => rfl
  | cons n l ih => rw [List.foldl_cons, State.captureOne_of_inactive h, ih]

theorem State.appendBurst_of_captured (hq : ∀ c : Cls, s.sched.queues[c].length ≤ 16) {x : Burst} {f : Cls → Option Burst}
    (hf : ∀ c : Cls, f c = if x.cls = c then some x else none) : s.appendBurst x = s.captured
      (Vector.ofFn fun c => keepNewest (s.sched.queues[c] ++ (f c).toList))
      (Nat.repeat satInc (((List.finRange 4).map fun c => (s.sched.queues[c] ++ (f c).toList).length - 16).sum)
        s.counters.dropOld) := by
  have hself : f x.cls = some x := (hf x.cls).trans (if_pos rfl)
  have hother : ∀ c : Cls, c ≠ x.cls → f c = none := fun c hc => (hf c).trans (if_neg hc.symm)
  have hqueues : s.sched.queues.set x.cls (keepNewest (s.sched.queues[x.cls] ++ [x])) =
      Vector.ofFn fun c => keepNewest (s.sched.queues[c] ++ (f c).toList) := Vector.ext fun c hc => by
    have hset := vector_set_getElem s.sched.queues x.cls ⟨c, hc⟩ (keepNewest (s.sched.queues[x.cls] ++ [x]))
    refine hset.trans ?_
    rw [Vector.getElem_ofFn]
    by_cases heq : x.cls = ⟨c, hc⟩
    · rw [if_pos heq, ← heq, hself]
      rfl
    · rw [if_neg heq, hother _ (Ne.symm heq), Option.toList_none, List.append_nil]
      exact (keepNewest_of_le (hq ⟨c, hc⟩)).symm
  have hsum : ((List.finRange 4).map fun c => (s.sched.queues[c] ++ (f c).toList).length - 16).sum =
      (s.sched.queues[x.cls] ++ [x]).length - 16 := by
    have hone := sum_map_add_ite (fun _ => 0) x.cls ((s.sched.queues[x.cls] ++ [x]).length - 16)
    rw [List.map_const', List.sum_replicate, smul_zero, Nat.zero_add] at hone
    refine Eq.trans (congrArg List.sum (List.map_congr_left fun c _ => ?_)) hone
    by_cases heq : c = x.cls
    · rw [if_pos heq, heq, hself, Nat.zero_add]
      rfl
    · rw [if_neg heq, hother c heq, Option.toList_none, List.append_nil]
      exact Nat.sub_eq_zero_of_le (hq c)
  rw [State.appendBurst_eq (hq x.cls), hqueues, hsum]
  rfl

/-- One source captured, told class by class. -/
theorem State.captureOne_eq (hmode : s.mode = .active) (hq : ∀ c : Cls, s.sched.queues[c].length ≤ 16) (seen : PortNo → Bool)
    (n : SourceNo) : State.captureOne seen s n = s.captured
      (Vector.ofFn fun c => keepNewest (s.sched.queues[c] ++ (s.captureOf seen c n).toList))
      (Nat.repeat satInc (((List.finRange 4).map fun c =>
        (s.sched.queues[c] ++ (s.captureOf seen c n).toList).length - 16).sum) s.counters.dropOld) := by
  have hnone : (∀ c : Cls, s.captureOf seen c n = none) → s = s.captured
      (Vector.ofFn fun c => keepNewest (s.sched.queues[c] ++ (s.captureOf seen c n).toList))
      (Nat.repeat satInc (((List.finRange 4).map fun c =>
        (s.sched.queues[c] ++ (s.captureOf seen c n).toList).length - 16).sum) s.counters.dropOld) := by
    intro hcapt
    have hqueues : (Vector.ofFn fun c => keepNewest (s.sched.queues[c] ++ (s.captureOf seen c n).toList)) = s.sched.queues :=
      Vector.ext fun c hc => by
        rw [Vector.getElem_ofFn, hcapt, Option.toList_none, List.append_nil]
        exact keepNewest_of_le (hq ⟨c, hc⟩)
    have hsum : ((List.finRange 4).map fun c => (s.sched.queues[c] ++ (s.captureOf seen c n).toList).length - 16).sum = 0 :=
      List.sum_eq_zero fun x hx => by
        obtain ⟨c, -, rfl⟩ := List.mem_map.1 hx
        rw [hcapt, Option.toList_none, List.append_nil]
        exact Nat.sub_eq_zero_of_le (hq c)
    rw [hqueues, hsum]
    rfl
  unfold State.captureOne
  rw [hmode]
  cases hc : s.sendClass n with
  | none => exact hnone fun c => if_neg (by rw [hc]; nofun)
  | some d =>
    cases hb : s.captureBlock seen n with
    | none =>
      refine hnone fun c => ?_
      rw [State.captureOf, hb]
      exact ite_self _
    | some b =>
      have hcapt : ∀ c : Cls, s.captureOf seen c n = if d = c then some ⟨n, d, s.audio.blockCounter, b, 0⟩ else none := fun c => by
        rw [State.captureOf, hc, hb]
        by_cases heq : d = c
        · rw [if_pos (congrArg some heq), if_pos heq, heq]
          rfl
        · rw [if_neg fun h => heq (Option.some.inj h), if_neg heq]
      refine (State.appendBurst_of_captured hq hcapt).trans ?_
      rfl

theorem length_keepNewest_append (l k : List Burst) :
    ((keepNewest l ++ k).length - 16) + (l.length - 16) = (l ++ k).length - 16 := by
  rw [List.length_append, List.length_append, keepNewest, List.length_drop]
  omega

theorem filterMap_cons_toList {α β : Type} (f : α → Option β) (a : α) (l : List α) :
    (a :: l).filterMap f = (f a).toList ++ l.filterMap f := by
  rw [List.filterMap_cons]
  cases f a <;> rfl

theorem State.captures_eq (seen : PortNo → Bool) (l : List SourceNo) : ∀ {s : State}, s.mode = .active →
    (∀ c : Cls, s.sched.queues[c].length ≤ 16) → l.foldl (State.captureOne seen) s = s.captured
      (Vector.ofFn fun c => keepNewest (s.sched.queues[c] ++ l.filterMap (s.captureOf seen c)))
      (Nat.repeat satInc (((List.finRange 4).map fun c =>
        (s.sched.queues[c] ++ l.filterMap (s.captureOf seen c)).length - 16).sum) s.counters.dropOld) := by
  induction l with
  | nil =>
    intro s _ hq
    have hqueues : (Vector.ofFn fun c : Cls => keepNewest (s.sched.queues[c] ++ ([] : List SourceNo).filterMap (s.captureOf seen c))) =
        s.sched.queues := Vector.ext fun c hc => by
      rw [Vector.getElem_ofFn, List.filterMap_nil, List.append_nil]
      exact keepNewest_of_le (hq ⟨c, hc⟩)
    have hsum : ((List.finRange 4).map fun c : Cls =>
        (s.sched.queues[c] ++ ([] : List SourceNo).filterMap (s.captureOf seen c)).length - 16).sum = 0 :=
      List.sum_eq_zero fun x hx => by
        obtain ⟨c, -, rfl⟩ := List.mem_map.1 hx
        rw [List.filterMap_nil, List.append_nil]
        exact Nat.sub_eq_zero_of_le (hq c)
    rw [hqueues, hsum]
    rfl
  | cons n l ih =>
    intro s hmode hq
    have hget : ∀ c : Cls, (Vector.ofFn fun c => keepNewest (s.sched.queues[c] ++ (s.captureOf seen c n).toList))[c] =
        keepNewest (s.sched.queues[c] ++ (s.captureOf seen c n).toList) := fun c => Vector.getElem_ofFn ..
    rw [List.foldl_cons, State.captureOne_eq hmode hq]
    generalize hv : (Vector.ofFn fun c => keepNewest (s.sched.queues[c] ++ (s.captureOf seen c n).toList)) = v at hget ⊢
    generalize hd : Nat.repeat satInc _ s.counters.dropOld = d
    have hrest := ih (s := s.captured v d) hmode fun c => (hget c).symm ▸ length_keepNewest _
    have hqueues : (Vector.ofFn fun c : Cls => keepNewest (v[c] ++ l.filterMap (s.captureOf seen c))) =
        Vector.ofFn fun c => keepNewest (s.sched.queues[c] ++ (n :: l).filterMap (s.captureOf seen c)) :=
      congrArg Vector.ofFn (funext fun c => by
        rw [hget, keepNewest_append, filterMap_cons_toList, List.append_assoc])
    have hsum : ((List.finRange 4).map fun c : Cls => (v[c] ++ l.filterMap (s.captureOf seen c)).length - 16).sum +
        ((List.finRange 4).map fun c => (s.sched.queues[c] ++ (s.captureOf seen c n).toList).length - 16).sum =
        ((List.finRange 4).map fun c => (s.sched.queues[c] ++ (n :: l).filterMap (s.captureOf seen c)).length - 16).sum := by
      rw [← List.sum_map_add]
      refine congrArg List.sum (List.map_congr_left fun c _ => ?_)
      rw [hget, length_keepNewest_append, filterMap_cons_toList, List.append_assoc]
    refine hrest.trans ?_
    show s.captured (Vector.ofFn fun c : Cls => keepNewest (v[c] ++ l.filterMap (s.captureOf seen c)))
      (Nat.repeat satInc (((List.finRange 4).map fun c : Cls => (v[c] ++ l.filterMap (s.captureOf seen c)).length - 16).sum) d) = _
    rw [hqueues, ← hsum, repeat_add, hd]

end Sys2Proof.Machine

/-!
SUPPORT. A sample period, and the completion of a block put together from its stages.
-/

namespace Sys2Proof.Machine

variable {s : State}

/-! ### A sample period (R18) -/

theorem exec_localSample_of_short {due : Nat} {x : Vector Sample 16} (h : s.audio.current.length < 47)
    (hdue : s.audio.sampleAt + Config.countsPerSample = due) : exec (.localSample x) s = .next
      { s.reach due with audio := { s.audio with current := s.audio.current ++ [x], sampleAt := due } } := by
  refine congrArg Host.Outcome.next ((if_neg ?_).trans ?_)
  · rw [List.length_append, List.length_singleton]
    omega
  · rw [hdue]

/-- The station once its block is complete, before the pass, the queues and the ports take their part (R18 to R20). -/
def State.completing (s : State) (due : Nat) (periods : List (Vector Sample 16)) : State := { s.reach due with
  audio := { s.audio with
    blockCounter := s.audio.blockCounter + 1, current := [], completed := Vector.ofFn (lineBlock periods)
    playing := s.audio.delivered, sampleAt := due, completedAt := due }
  choices := s.choices + 1 }

theorem exec_localSample_of_full {due : Nat} {x : Vector Sample 16} (h : s.audio.current.length = 47)
    (hpass : s.audio.pass = none) (hdue : s.audio.sampleAt + Config.countsPerSample = due) :
    exec (.localSample x) s = .next ((List.finRange 8).foldl State.portCompletion
      (((s.completing due (s.audio.current ++ [x])).passOf s.portSeen).ageQueues.captureAll s.portSeen)) := by
  refine congrArg Host.Outcome.next ((if_pos ?_).trans ?_)
  · rw [List.length_append, List.length_singleton, h]
  · rw [hdue]
    have hend := State.endPass_of_none (s := s.completing due (s.audio.current ++ [x])) hpass
    unfold State.blockCompletion
    exact congrArg (fun u : State => (List.finRange 8).foldl State.portCompletion
      ((u.passOf s.portSeen).ageQueues.captureAll s.portSeen)) hend

/-! ### The stages put together -/

/-- The pass that a completion starts, with the gains, entries and CONCEAL count it leaves (R20 to R25, R36 to R38). -/
structure State.PassStarts (s c : State) (mixes : Vector MixState 24) (listens : Vector (Option ListenEntry) 32)
    (pass : Option Pass) (conceal : Nat) : Prop where
  unconfigured : s.mode = .unconfigured → mixes = s.mixes ∧ listens = s.listens ∧ pass = none ∧ conceal = s.counters.conceal
  configured : s.mode ≠ .unconfigured → mixes = Vector.ofFn s.dimmed ∧
    listens = (Vector.ofFn fun k => s.listens[k].map fun e => e.playOne.2.1) ∧
    pass = some ⟨s.audio.blockCounter + 1, Vector.ofFn (c.passMix s.portSeen)⟩ ∧
    conceal = Nat.repeat satInc s.misses s.counters.conceal

theorem Counters.repeat_incConceal (n : Nat) (cs : Counters) :
    Nat.repeat Counters.incConceal n cs = { cs with conceal := Nat.repeat satInc n cs.conceal } := by
  induction n with
  | zero => rfl
  | succ n ih => rw [Nat.repeat, ih]; rfl

theorem State.passOf_spec (s : State) (due : Nat) (periods : List (Vector Sample 16)) (hpass : s.audio.pass = none) :
    ∃ mixes listens pass conceal, s.PassStarts (s.completing due periods) mixes listens pass conceal ∧
      (s.completing due periods).passOf s.portSeen = { s.completing due periods with
        mixes, listens
        audio := { (s.completing due periods).audio with pass }
        counters := { s.counters with conceal } } := by
  by_cases hmode : s.mode = .unconfigured
  · refine ⟨s.mixes, s.listens, none, s.counters.conceal, ⟨fun _ => ⟨rfl, rfl, rfl, rfl⟩, fun hno => absurd hmode hno⟩, ?_⟩
    have hclosed : (s.completing due periods).configured = false := State.configured_of_mode_eq hmode
    rw [State.passOf, hclosed, if_neg Bool.false_ne_true, ← hpass]
    rfl
  · refine ⟨_, _, _, _, ⟨fun hno => absurd hno hmode, fun _ => ⟨rfl, rfl, rfl, rfl⟩⟩, ?_⟩
    have hopen : (s.completing due periods).configured = true := State.configured_of_mode_ne hmode
    rw [State.passOf, hopen, if_pos rfl, State.startPass_eq, State.playAll_eq, State.count, Counters.repeat_incConceal]
    rfl

/-- The queues and their count of discards after a completion (R130 to R134). -/
structure State.Captures (s : State) (c : State) (queues : Vector (List Burst) 4) (dropOld : Nat) : Prop where
  inactive : s.mode ≠ .active → queues = (Vector.ofFn fun c => s.sched.queues[c].map Burst.aged) ∧ dropOld = s.counters.dropOld
  active : s.mode = .active → s.QueuesBounded →
    queues = (Vector.ofFn fun d => keepNewest (s.sched.queues[d].map Burst.aged ++
      (List.finRange 24).filterMap (c.captureOf s.portSeen d))) ∧
    dropOld = Nat.repeat satInc (((List.finRange 4).map fun d => (s.sched.queues[d].map Burst.aged ++
      (List.finRange 24).filterMap (c.captureOf s.portSeen d)).length - 16).sum) s.counters.dropOld

theorem State.captureOne_frame (seen : PortNo → Bool) (s : State) (n : SourceNo) :
    ∃ v d, State.captureOne seen s n = s.captured v d := by
  unfold State.captureOne
  split
  · unfold State.appendBurst
    dsimp only
    split
    · exact ⟨_, s.counters.dropOld, rfl⟩
    · exact ⟨_, _, rfl⟩
  · exact ⟨s.sched.queues, s.counters.dropOld, rfl⟩

theorem State.captureAll_frame (s : State) (seen : PortNo → Bool) : ∃ v d, s.captureAll seen = s.captured v d := by
  unfold State.captureAll
  induction List.finRange 24 generalizing s with
  | nil => exact ⟨s.sched.queues, s.counters.dropOld, rfl⟩
  | cons n l ih =>
    obtain ⟨v, d, hfirst⟩ := State.captureOne_frame seen s n
    obtain ⟨w, e, hrest⟩ := ih (s.captured v d)
    exact ⟨w, e, by rw [List.foldl_cons, hfirst, hrest]; rfl⟩

/-- The capture, from a state whose queues have just aged. -/
theorem State.captureAll_spec (s c a : State) (hmode : a.mode = s.mode) (hold : a.counters.dropOld = s.counters.dropOld)
    (hqueues : a.sched.queues = Vector.ofFn fun d => s.sched.queues[d].map Burst.aged)
    (hcapture : a.captureOf s.portSeen = c.captureOf s.portSeen) :
    ∃ v d, s.Captures c v d ∧ a.captureAll s.portSeen = a.captured v d := by
  obtain ⟨v, d, hframe⟩ := a.captureAll_frame s.portSeen
  have hv : v = (a.captureAll s.portSeen).sched.queues := by rw [hframe]; rfl
  have hd : d = (a.captureAll s.portSeen).counters.dropOld := by rw [hframe]; rfl
  have hget : ∀ d : Cls, a.sched.queues[d] = s.sched.queues[d].map Burst.aged := fun d => by
    rw [hqueues]
    exact Vector.getElem_ofFn ..
  refine ⟨v, d, ⟨fun hno => ?_, fun hactive hbounded => ?_⟩, hframe⟩
  · rw [hv, hd, State.captureAll_of_inactive (by rwa [hmode]), hqueues, hold]
    exact ⟨rfl, rfl⟩
  · have hlen : ∀ d : Cls, a.sched.queues[d].length ≤ 16 := fun d => by
      rw [hget, List.length_map]
      exact hbounded.2 d
    have hall : a.captureAll s.portSeen = _ := State.captures_eq s.portSeen (List.finRange 24) (hmode.trans hactive) hlen
    rw [hv, hd, hall, hcapture, hold]
    refine ⟨?_, ?_⟩
    · exact congrArg Vector.ofFn (funext fun d => by rw [hget])
    · refine congrArg (fun l : List Nat => Nat.repeat satInc l.sum s.counters.dropOld) (List.map_congr_left fun d _ => ?_)
      rw [hget]

/-- A completion, with no pass in flight. -/
theorem State.completes {due : Nat} {x : Vector Sample 16} (h : s.audio.current.length = 47) (hpass : s.audio.pass = none)
    (hdue : s.audio.sampleAt + Config.countsPerSample = due) :
    ∃ mixes listens pass conceal queues dropOld,
      s.PassStarts (s.completing due (s.audio.current ++ [x])) mixes listens pass conceal ∧
      s.Captures (s.completing due (s.audio.current ++ [x])) queues dropOld ∧
      exec (.localSample x) s = .next { s.reach due with
        audio := { (s.completing due (s.audio.current ++ [x])).audio with pass }
        choices := s.choices + 1
        mixes, listens
        sched := { notes := s.sched.notes, queues, last := s.sched.aged.last }
        ring := { (s.reach due).ring with
          insertion := (s.reach due).ring.insertion.map fun i => { i with message := i.message.aged } }
        counters := { s.counters with conceal, dropOld }
        ports := Vector.ofFn fun k => s.ports[k].atCompletion
        events := (List.finRange 8).foldl (fun q k => tellLive (s.audio.blockCounter + 1) k s.ports[k] q) s.events } := by
  obtain ⟨mixes, listens, pass, conceal, hstarts, heq⟩ := s.passOf_spec due (s.audio.current ++ [x]) hpass
  have hexec := exec_localSample_of_full (x := x) h hpass hdue
  generalize hc : s.completing due (s.audio.current ++ [x]) = c at hstarts heq hexec ⊢
  rw [heq] at hexec
  obtain ⟨queues, dropOld, hcaptures, hcaptured⟩ := State.captureAll_spec s c
    (({ c with mixes, listens, audio := { c.audio with pass }, counters := { s.counters with conceal } } : State).ageQueues)
    (by rw [← hc]; rfl) rfl (by rw [← hc]; rfl) rfl
  rw [hcaptured, State.portCompletions_eq] at hexec
  refine ⟨mixes, listens, pass, conceal, queues, dropOld, hstarts, hcaptures, hexec.trans ?_⟩
  rw [← hc]
  rfl

end Sys2Proof.Machine

/-!
SUPPORT. What a completion leaves of the lines and the field ports (R19, R34, R168, R176, R177).
-/

namespace Sys2Proof.Machine

variable {s : State}

theorem vector_ofFn_getElem {α : Type} {n : Nat} (f : Fin n → α) (k : Fin n) : (Vector.ofFn f)[k] = f k := Vector.getElem_ofFn ..

/-! ### What the lines play (R19, R34) -/

theorem State.lineOut_of_none {n : Fin 16} (h : s.audio.playing[n] = none) : s.lineOut n = 0 := by
  rw [State.lineOut, h]

theorem State.lineOut_of_some {n : Fin 16} {b : Block} (h : s.audio.playing[n] = some b) {j : Fin 48}
    (hj : s.audio.current.length = j.val) : s.lineOut n = b[j] := by
  have hlt : j.val < b.toList.length := by rw [Vector.length_toList]; exact j.isLt
  rw [State.lineOut, h, hj]
  exact (List.getD_eq_getElem _ _ hlt).trans (Vector.getElem_toList ..)

/-! ### The field ports (R168, R176, R177) -/

section
variable {p : Port}

theorem Port.atCompletion_of_settling (h : p.state = .settling) : p.atCompletion = { p with
    activeIn := p.stagedIn, activeOut := p.stagedOut, settled := min 8 (p.settled + 1)
    state := if min 8 (p.settled + 1) = 8 ∧ 96 ≤ p.elastic.length then .live else .settling } := by
  have hlive : p.goesLive = true ↔ min 8 (p.settled + 1) = 8 ∧ 96 ≤ p.elastic.length := by
    rw [Port.goesLive_iff]
    constructor
    · exact fun ⟨_, hsettled, hfill⟩ => ⟨by omega, hfill⟩
    · exact fun ⟨hsettled, hfill⟩ => ⟨h, by omega, hfill⟩
  rw [Port.atCompletion, h]
  dsimp only
  by_cases hgoes : p.goesLive = true
  · rw [if_pos hgoes, if_pos (hlive.1 hgoes)]
    rfl
  · rw [if_neg hgoes, if_neg (hlive.not.1 hgoes), ← h]
    rfl

theorem Port.atCompletion_of_live (h : p.state = .live) : p.atCompletion = p.driftChecked := by
  rw [Port.atCompletion, h]

theorem Port.atCompletion_of_else (hsettling : p.state ≠ .settling) (hlive : p.state ≠ .live) : p.atCompletion = p := by
  unfold Port.atCompletion
  split
  · next h => exact absurd h hsettling
  · next h => exact absurd h hlive
  · rfl

theorem Port.driftChecked_of {a g : Nat} (ha : p.stagedIn = some a) (hg : p.trained = some g) : p.driftChecked = { p with
    activeIn := some a, activeOut := p.stagedOut
    stagedIn := some (if 120 < p.elastic.length then min (a + 8) (g + g / 128)
      else if p.elastic.length < 72 then max (a - 8) (g - g / 128) else a) } := by
  rw [Port.driftChecked, Port.activate, hg, ha]
  rfl

/-- A port is LIVE after a completion if it was, or becomes it. -/
theorem Port.atCompletion_live_iff : p.atCompletion.state = .live ↔ p.state = .live ∨ p.goesLive = true := by
  by_cases hsettling : p.state = .settling
  · rw [Port.atCompletion, hsettling]
    by_cases hgoes : p.goesLive = true
    · simp [hgoes]
    · simp [hgoes, Port.settledBlock, Port.activate, hsettling]
  · rw [Port.not_goesLive hsettling]
    by_cases hlive : p.state = .live
    · rw [Port.atCompletion_of_live hlive]
      simp only [hlive, true_or, iff_true]
      unfold Port.driftChecked
      split <;> exact hlive
    · rw [Port.atCompletion_of_else hsettling hlive]
      simp [hlive]

end

theorem tellLive_eq (b : Seq) (k : PortNo) (p : Port) (q : EventQueue) : tellLive b k p q =
    if p.state = .settling ∧ 7 ≤ p.settled ∧ 96 ≤ p.elastic.length then
      q.push (.field k .settling .live .none p.idResult p.failures p.interval b) else q :=
  if_congr p.goesLive_iff rfl rfl

end Sys2Proof.Machine

namespace Sys2Proof.Proofs

open Sys2Proof.Machine

/-- Settles O33. -/
theorem localSampleFillsAndCompletesBlock : Obligations.LocalSampleFillsAndCompletesBlock := by
  refine ⟨fun s x h => exec_localSample_of_short h rfl, fun s n => ⟨State.lineOut_of_none, fun b j hb hj => State.lineOut_of_some hb hj⟩,
    fun s x h hpass => ?_⟩
  have hdue : s.audio.sampleAt + Config.countsPerSample = s.audio.sampleAt + 512 := rfl
  obtain ⟨mixes, listens, pass, conceal, queues, dropOld, hstarts, hcaptures, hexec⟩ := State.completes (x := x) h hpass hdue
  generalize s.audio.sampleAt + 512 = due at *
  refine ⟨_, hexec, rfl, rfl, fun n j => ?_, rfl, rfl, fun n => ?_, rfl, rfl, ?_, fun k => ?_, ?_, fun hmode => ?_, rfl⟩
  · have hline := vector_ofFn_getElem (lineBlock (s.audio.current ++ [x])) n
    refine (congrArg (fun b : Block => b[j]) hline).trans ?_
    exact vector_ofFn_getElem (fun j : Fin 48 => ((s.audio.current ++ [x]).getD j.val (Vector.replicate 16 0))[n]) j
  · dsimp only
    split
    · next b hb => exact State.lineOut_of_some (j := 0) hb rfl
    · next hnone => exact State.lineOut_of_none hnone
  · dsimp only
    by_cases hmode : s.mode = .unconfigured
    · obtain ⟨-, -, rfl, -⟩ := hstarts.unconfigured hmode
      simp [hmode]
    · obtain ⟨-, -, rfl, -⟩ := hstarts.configured hmode
      simp [hmode]
  · have hport := vector_ofFn_getElem (fun k : PortNo => s.ports[k].atCompletion) k
    exact ⟨fun hstate => hport.trans (Port.atCompletion_of_settling hstate),
      fun hstate a g ha hg => hport.trans ((Port.atCompletion_of_live hstate).trans (Port.driftChecked_of ha hg)),
      fun hsettling hlive => hport.trans (Port.atCompletion_of_else hsettling hlive)⟩
  · exact List.foldl_ext _ _ _ fun q k _ => tellLive_eq _ k _ q
  · obtain ⟨rfl, rfl, -, -⟩ := hstarts.unconfigured hmode
    obtain ⟨hqueues, -⟩ := hcaptures.inactive (by rw [hmode]; nofun)
    refine ⟨rfl, rfl, hqueues.trans (Vector.ext fun c hc => ?_)⟩
    rw [Vector.getElem_ofFn, Vector.getElem_map]
    rfl

end Sys2Proof.Proofs

/-!
SUPPORT. The values a pass takes at its start (R20 to R25, R36 to R38), and the capture told source by source (R130 to R134).
-/

namespace Sys2Proof.Machine

variable {s : State}

/-! ### The sources that a completion sees (R131, R168) -/

theorem State.portSeen_of_live {k : PortNo} (h : s.ports[k].state = .live) : s.portSeen k = true := by
  rw [State.portSeen, Port.not_goesLive (by rw [h]; nofun), if_neg Bool.false_ne_true, h]
  rfl

theorem State.portSeen_of_not_live {k : PortNo} (h : s.ports[k].atCompletion.state ≠ .live) : s.portSeen k = false := by
  have hno := Port.atCompletion_live_iff.not.1 h
  rw [State.portSeen, if_neg fun hgoes => hno (.inr hgoes)]
  exact beq_false_of_ne fun hlive => hno (.inl hlive)

/-! ### The pass (R21 to R25, R36 to R38) -/

theorem dimStep_eq (d target ramp : Nat) : dimStep d target ramp =
    if ramp = 0 then target else if d ≤ target then min target (d + ramp) else max target (d - ramp) := by
  unfold dimStep
  split
  · rfl
  · repeat' split
    all_goals omega

/-- The pass mix of a completion: its base, its routed blocks, and what it takes of the settings (R21 to R25). -/
theorem State.passMix_spec (s : State) (due : Nat) (periods : List (Vector Sample 16)) (m : Mix) :
    ∃ bs : List Block, bs.length = s.routes[m].length ∧
      ((s.completing due periods).passMix s.portSeen m).terms = (s.completing due periods).baseTerm m ++
        List.zipWith (fun (b : Block) (r : Route) => (⟨b, max r.fixedLevel r.talkLevel⟩ : Term)) bs s.routes[m] ∧
      ∀ (j : Nat) (b : Block) (r : Route), bs[j]? = some b → s.routes[m][j]? = some r →
        b = (s.completing due periods).inputBlock s.portSeen r.input := by
  refine ⟨s.routes[m].map fun r => (s.completing due periods).inputBlock s.portSeen r.input, List.length_map .., ?_,
    fun j b r hb hr => ?_⟩
  · rw [List.zipWith_map_left, List.zipWith_self]
    rfl
  · rw [List.getElem?_map, hr] at hb
    exact (Option.some.inj hb).symm

section
variable (due : Nat) (periods : List (Vector Sample 16))

theorem State.baseTerm_of_none {m : Mix} (h : s.cfg.mixes[m].base = none) : (s.completing due periods).baseTerm m = [] := by
  have hbase : (s.completing due periods).cfg.mixes[m].base = none := h
  rw [State.baseTerm, hbase]

theorem State.baseTerm_of_some {m : Mix} {n : Fin 16} (h : s.cfg.mixes[m].base = some n) :
    (s.completing due periods).baseTerm m = [⟨(s.completing due periods).audio.completed[n],
      s.cfg.mixes[m].baseLevel * (s.dimmed m).dimGain / 32768⟩] := by
  have hbase : (s.completing due periods).cfg.mixes[m].base = some n := h
  rw [State.baseTerm, hbase]
  rfl

theorem State.inputBlock_field {k : PortNo} {b : Bool} (h : s.portSeen k = b) :
    (s.completing due periods).inputBlock s.portSeen (.field k) = if b then s.ports[k].completed else Block.silence := by
  rw [← h]
  rfl

end

theorem State.playedBlock_of_none {q : Remote} (h : s.findListen q = none) : s.playedBlock q = Block.silence := by
  rw [State.playedBlock, h]

theorem State.playedBlock_of_some {q : Remote} {k : Fin 32} (h : s.findListen q = some k) :
    s.playedBlock q = (s.listens[k].map fun e => e.playOne.1).getD Block.silence := by
  rw [State.playedBlock, h]

end Sys2Proof.Machine

namespace Sys2Proof.Proofs

open Sys2Proof.Machine

/-- Settles O34. -/
theorem passTakesItsValues : Obligations.PassTakesItsValues := by
  intro s x h hpass hmode
  obtain ⟨mixes, listens, pass, conceal, queues, dropOld, hstarts, -, hexec⟩ :=
    State.completes (x := x) (due := s.audio.sampleAt + 512) h hpass rfl
  generalize s.audio.sampleAt + 512 = due at *
  obtain ⟨rfl, rfl, rfl, rfl⟩ := hstarts.configured hmode
  refine ⟨_, _, hexec, rfl, rfl, fun m => ?_, fun k => vector_ofFn_getElem _ k, rfl⟩
  have hmix := vector_ofFn_getElem ((s.completing due (s.audio.current ++ [x])).passMix s.portSeen) m
  have hdimmed := vector_ofFn_getElem s.dimmed m
  obtain ⟨bs, hlength, hterms, hblocks⟩ := s.passMix_spec due (s.audio.current ++ [x]) m
  intro c target d d'
  have hd : (s.dimmed m).dimGain = d' := dimStep_eq _ _ _
  refine ⟨hdimmed.trans (congrArg (fun g => ({ s.mixes[m] with dimGain := g } : MixState)) hd), congrArg PassMix.headroom hmix,
    congrArg PassMix.trim hmix, congrArg PassMix.lo hmix, congrArg PassMix.hi hmix, bs, hlength, ?_, fun j b r hb hr => ?_⟩
  · refine (congrArg PassMix.terms hmix).trans (hterms.trans (congrArg (· ++ _) ?_))
    split
    · next hbase => exact State.baseTerm_of_none due _ hbase
    · next n hbase =>
      rw [← hd]
      exact State.baseTerm_of_some due _ hbase
  · have hblock := hblocks j b r hb hr
    refine ⟨fun n hn => ?_, fun k hk _ hlive => ?_, fun k hk hno => ?_, fun q hq => ?_⟩
    · rw [hblock, hn]
      rfl
    · rw [hblock, hk]
      exact State.inputBlock_field due _ (State.portSeen_of_live hlive)
    · have hport : (Vector.ofFn fun k : PortNo => s.ports[k].atCompletion)[k].state ≠ .live := hno
      rw [vector_ofFn_getElem] at hport
      rw [hblock, hk]
      exact State.inputBlock_field due _ (State.portSeen_of_not_live hport)
    · rw [hblock, hq]
      have hplayed : (s.completing due (s.audio.current ++ [x])).inputBlock s.portSeen (.remote q) = s.playedBlock q := rfl
      rw [hplayed]
      split
      · next hnone => exact State.playedBlock_of_none hnone
      · next k hsome => exact State.playedBlock_of_some hsome

end Sys2Proof.Proofs

/-!
SUPPORT. The capture told source by source, and the ageing of the last-inserted records (R131 to R134, R139).
-/

namespace Sys2Proof.Machine

variable {s : State}

theorem LastInserted.aged_eq (r : LastInserted) : r.aged = if r.age < 3 then some { r with age := r.age + 1 } else none := by
  unfold LastInserted.aged
  by_cases h : r.age < 3
  · rw [if_pos h, if_neg (by omega)]
  · rw [if_neg h, if_pos (by omega)]

theorem Scheduler.aged_last (q : Scheduler) (n : SourceNo) : q.aged.last[n] = q.last[n].bind fun r =>
    if r.age < 3 then some { r with age := r.age + 1 } else none := by
  have hget : q.aged.last[n] = q.last[n].bind LastInserted.aged := vector_ofFn_getElem _ n
  rw [hget]
  exact congrArg (q.last[n].bind ·) (funext LastInserted.aged_eq)

/-- The capture of one source at a completion: a local line's block, or that of a port that is seen (R131, R132). -/
theorem State.captureOf_completing (s : State) (due : Nat) (periods : List (Vector Sample 16)) (seen : PortNo → Bool) (c : Cls)
    (n : SourceNo) : (s.completing due periods).captureOf seen c n =
      if s.sendClass n = some c then
        if h : n.val < 16 then some ⟨n, c, s.audio.blockCounter + 1, (s.completing due periods).audio.completed[n.val], 0⟩
        else if seen ⟨n.val - 16, by omega⟩ then
          some ⟨n, c, s.audio.blockCounter + 1, (s.ports[n.val - 16]'(by omega)).completed, 0⟩
        else none
      else none := by
  have hclass : (s.completing due periods).sendClass n = s.sendClass n := rfl
  rw [State.captureOf, hclass]
  refine if_congr Iff.rfl ?_ rfl
  unfold State.captureBlock
  by_cases h : n.val < 16
  · rw [dif_pos h, dif_pos h]
    rfl
  · rw [dif_neg h, dif_neg h]
    dsimp only
    split <;> rfl

end Sys2Proof.Machine

namespace Sys2Proof.Proofs

open Sys2Proof.Machine

/-- Settles O39. -/
theorem completionCapturesSendingSources : Obligations.CompletionCapturesSendingSources := by
  intro s x h hpass aged records
  obtain ⟨mixes, listens, pass, conceal, queues, dropOld, -, hcaptures, hexec⟩ :=
    State.completes (x := x) (due := s.audio.sampleAt + 512) h hpass rfl
  generalize s.audio.sampleAt + 512 = due at *
  refine ⟨fun hsilent => ?_, fun hactive hbounded => ?_⟩
  · obtain ⟨rfl, rfl⟩ := hcaptures.inactive (by rw [hsilent]; nofun)
    exact ⟨_, hexec, fun n => s.sched.aged_last n, fun c => vector_ofFn_getElem _ c, rfl⟩
  · obtain ⟨rfl, rfl⟩ := hcaptures.active hactive hbounded
    refine ⟨_, s.portSeen, hexec, fun n => s.sched.aged_last n, fun k => State.portSeen_of_live, fun k hno => ?_, ?_,
      fun n c => State.sendClass_eq_some_iff⟩
    · have hport : (Vector.ofFn fun k : PortNo => s.ports[k].atCompletion)[k].state ≠ .live := hno
      rw [vector_ofFn_getElem] at hport
      exact State.portSeen_of_not_live hport
    · intro captured all
      have hall : ∀ c : Cls, s.sched.queues[c].map Burst.aged ++ (List.finRange 24).filterMap
          ((s.completing due (s.audio.current ++ [x])).captureOf s.portSeen c) = all c := fun c =>
        congrArg (_ ++ ·) (List.filterMap_congr fun n _ => s.captureOf_completing due _ s.portSeen c n)
      refine ⟨fun c => (vector_ofFn_getElem _ c).trans (congrArg keepNewest (hall c)), ?_⟩
      refine congrArg (fun l : List Nat => ({ s.counters with
        dropOld := Nat.repeat satInc l.sum s.counters.dropOld, conceal := conceal } : Counters)) (List.map_congr_left fun c _ => ?_)
      rw [hall]

end Sys2Proof.Proofs
